-- ==== Sys2Proof/Word.lean ====
section
/-! DEFINITION. The word types of the block and the two packs (00_scope.md R10, R15; 30_encoding.md R70, R72). -/

namespace Sys2Proof

/-- One byte of an AFE frame (R72) or of a status or fault byte (R164, R165). -/
abbrev Byte := BitVec 8

/-- A pack's balance mask, a u16 (R74). -/
abbrev Mask := BitVec 16

/-- A command word or a response value, a u32 (R70, R84). -/
abbrev Word := BitVec 32

/-- A received frame or a frame on the wire, a u24 (R72, R73). -/
abbrev Word24 := BitVec 24

/-- A pack index: PACKS = 2, so p is 0 or 1 (R7, R11). -/
inductive Pack where
  | p0
  | p1
deriving DecidableEq, Repr, Inhabited

end Sys2Proof
end

