-- ==== Sys2Proof/Config.lean ====
section
/-! DEFINITION. What an implementation of the block fixes (00_scope.md R7, R8) and the free values (R12, R105). -/

namespace Sys2Proof

/-- PACK_TOTAL_SOURCE (R7, R124). -/
inductive TotalSource where
  | cellSum
  | external
deriving DecidableEq, Repr, Inhabited

/-- The three bytes an AFE shifts back during one frame, in the order received (R72, R73). -/
structure AfeReply where
  r0 : Byte
  r1 : Byte
  r2 : Byte
deriving DecidableEq, Repr, Inhabited

/-- CAP, the ring-buffer capacity: 20, normative (R7, R9). -/
abbrev cap : Nat := 20

/-- The implementation parameters of R7. The state carries one record of them, so that every meaning takes them as an
argument "of the whole run" (R8); no step changes it. DESIGN CHOICE (log 1), safe: a statement about every state holds
for every value of every parameter. -/
structure Config where
  /-- NUM_CELLS, cells per pack (D3). -/
  numCells : Nat
  /-- ADC_RES, ADC resolution in bits (D11). -/
  adcRes : Nat
  /-- FSR, the full-scale range in volts, as the ratio fsrNum / fsrDen (D11). -/
  fsrNum : Nat
  fsrDen : Nat
  /-- ADC_MIN and ADC_MAX, the range of codes the ADC may return (D11). -/
  adcMin : Int
  adcMax : Int
  /-- ADC_CH[p], the ADC channel of pack p (D12). -/
  adcCh0 : Nat
  adcCh1 : Nat
  /-- PACK_TOTAL_SOURCE (D13). -/
  totalSource : TotalSource
  /-- CTRL_SAMPLE (R76). -/
  ctrlSample : Byte
  /-- CTRL_SELECT(j), one byte for each cell j, in the order of j (R76). -/
  ctrlSelect : List Byte
  /-- CTRL_BALSET (R76). -/
  ctrlBalset : Byte
  /-- CTRL_SLEEP (R76). -/
  ctrlSleep : Byte
  /-- CTRL_WAKE (R76). -/
  ctrlWake : Byte
  /-- CS_ID[p] and EN_ID[p], platform identifiers of the lines (D45). -/
  csId0 : Nat
  csId1 : Nat
  enId0 : Nat
  enId1 : Nat
  /-- SPI_MODE, the clock's polarity and phase (log 13), and SCLK_HZ, its rate, a whole number of hertz: DESIGN CHOICE
  (log 21) (D7). No step uses them. -/
  spiPolarity : Bool
  spiPhase : Bool
  sclkHz : Nat
  /-- IGN_DEBOUNCE_N (D26). -/
  ignDebounceN : Nat
  /-- CP_IRQ_ENABLE (D27). -/
  cpIrqEnable : Bool
  /-- T_SAMPLE_SETTLE and T_MUX_SETTLE in microseconds, T_CYCLE in milliseconds (R279). That each is a whole number of its
  unit is DESIGN CHOICE (log 21). No step uses them. -/
  sampleSettleUs : Nat
  muxSettleUs : Nat
  cycleMs : Nat
deriving DecidableEq, Repr

/-- The ranges R7 allows the parameters. -/
abbrev Config.legal (c : Config) : Prop :=
  10 ≤ c.numCells ∧ c.numCells ≤ 16 ∧ 1 ≤ c.adcRes ∧ c.adcRes ≤ 15 ∧ 0 < c.fsrNum ∧ 0 < c.fsrDen ∧
    -32768 ≤ c.adcMin ∧ c.adcMin ≤ c.adcMax ∧ c.adcMax ≤ 32767 ∧ c.ctrlSelect.length = c.numCells ∧
    1 ≤ c.ignDebounceN ∧ 50 ≤ c.muxSettleUs ∧ c.muxSettleUs ≤ 60

/-- FSR in volts, an exact rational (R7, R14). -/
def Config.fsr (c : Config) : ℚ := (c.fsrNum : ℚ) / (c.fsrDen : ℚ)

/-- SCALE = FSR / 2^ADC_RES, volts per code (R7, R14). -/
def Config.scale (c : Config) : ℚ := c.fsr / (2 : ℚ) ^ c.adcRes

/-- CTRL_SELECT(j) (R76). Beyond the list's end, where no cell of a legal configuration is, it is 0 (log 8). -/
def Config.selectByte (c : Config) (j : Nat) : Byte := c.ctrlSelect.getD j 0

/-- ADC_CH[p] (R7). -/
def Config.adcChannel (c : Config) : Pack → Nat
  | .p0 => c.adcCh0
  | .p1 => c.adcCh1

/-- CS_ID[p] (R7, R100). -/
def Config.csId (c : Config) : Pack → Nat
  | .p0 => c.csId0
  | .p1 => c.csId1

/-- EN_ID[p] (R7). -/
def Config.enId (c : Config) : Pack → Nat
  | .p0 => c.enId0
  | .p1 => c.enId1

/-- V_UP = 83/20 V exactly (R7, D17). -/
def vUp : ℚ := 83 / 20

/-- V_LO = 17/5 V exactly (R7, D17). -/
def vLo : ℚ := 17 / 5

/-! The free values: constants with no body, so that nothing can be proved of which value they give. -/

/-- The bytes the AFE answers to the n-th draw where no answer was fixed in advance: any u24 (R105, I2, I3; log 5). -/
opaque Config.afeAnswer : Nat → AfeReply

/-- The code the ADC answers to the n-th draw where no answer was fixed in advance: any Int, brought into
[ADC_MIN, ADC_MAX] by the read primitive (R12, I4; log 6). -/
opaque Config.adcAnswer : Nat → Int

/-- The OPEN parameters for which the spec gives no value at all (R76, D6, D7, D12, D45; log 2). -/
opaque Config.openCtrlSample : Byte
opaque Config.openCtrlSelect : Nat → Byte
opaque Config.openCtrlBalset : Byte
opaque Config.openCtrlSleep : Byte
opaque Config.openCtrlWake : Byte
opaque Config.openAdcChannel : Pack → Nat
opaque Config.openCsId : Pack → Nat
opaque Config.openEnId : Pack → Nat
opaque Config.openSpiPolarity : Bool
opaque Config.openSpiPhase : Bool
opaque Config.openSclkHz : Nat

/-- The parameters of a build that sets nothing: the defaults of R7; where R7 gives only the value its test vectors
use (NUM_CELLS, ADC_RES, FSR), that value; where it gives none, an opaque constant. DESIGN CHOICE (log 2), unsafe for a
statement about State.reset alone, which could lean on the three vector values. -/
def Config.default : Config where
  numCells := 16
  adcRes := 12
  fsrNum := 1024
  fsrDen := 125
  adcMin := 0
  adcMax := 4095
  adcCh0 := Config.openAdcChannel .p0
  adcCh1 := Config.openAdcChannel .p1
  totalSource := .cellSum
  ctrlSample := Config.openCtrlSample
  ctrlSelect := (List.range 16).map Config.openCtrlSelect
  ctrlBalset := Config.openCtrlBalset
  ctrlSleep := Config.openCtrlSleep
  ctrlWake := Config.openCtrlWake
  csId0 := Config.openCsId .p0
  csId1 := Config.openCsId .p1
  enId0 := Config.openEnId .p0
  enId1 := Config.openEnId .p1
  spiPolarity := Config.openSpiPolarity
  spiPhase := Config.openSpiPhase
  sclkHz := Config.openSclkHz
  ignDebounceN := 1
  cpIrqEnable := false
  sampleSettleUs := 60
  muxSettleUs := 60
  cycleMs := 250

end Sys2Proof
end

