-- ==== Sys2Proof/Machine/State.lean ====
section
/-! DEFINITION. The state of the block (10_state.md R20 to R41), its events and responses, and reset (70_reset_and_hazards.md R260). -/

namespace Sys2Proof.Machine

open Sys2Proof

/-- The system mode (R22). -/
inductive Mode where
  | standby
  | driving
  | charging
deriving DecidableEq, Repr, Inhabited

/-- A ring buffer: CAP slots, the slot the next push writes, the number of valid samples, and their exact sum (R24, R25). -/
structure Ring where
  slots : List Int
  head : Nat
  count : Nat
  sum : Int
deriving DecidableEq, Repr, Inhabited

/-- A pack's registers and buffers: mask[p], buf[p][j] for j < NUM_CELLS in the order of j, tot[p], enable[p], diag[p]
(R23, R24, R25, R27, R29). -/
structure PackState where
  mask : Mask
  buf : List Ring
  tot : Ring
  enable : Bool
  diag : Bool
deriving DecidableEq, Repr, Inhabited

/-- The kinds of settle delay (R12). -/
inductive DelayKind where
  | sampleSettle
  | muxSettle
deriving DecidableEq, Repr

/-- The events of the trace (R12). -/
inductive Event where
  /-- FRAME(p, t0, t1, t2, rx). -/
  | frame (p : Pack) (t0 t1 t2 : Byte) (rx : Word24)
  /-- EN(p, v). -/
  | en (p : Pack) (v : Bool)
  /-- DELAY(k). -/
  | delay (k : DelayKind)
  /-- ADC(ch, c). -/
  | adc (ch : Nat) (c : Int)
  /-- RADIO(v). -/
  | radio (v : Bool)
  /-- CAN(s, f). -/
  | can (s f : Byte)
  /-- TELEMETRY. -/
  | telemetry
  /-- DIAG(p). -/
  | diag (p : Pack)
deriving DecidableEq, Repr

/-- The response codes (R230). -/
inductive Code where
  | ok
  | illegal
  | halted
  | badArg
  | badMode
deriving DecidableEq, Repr

/-- A response: a code and a 32-bit value (R13, R84). -/
structure Response where
  code : Code
  value : Word
deriving DecidableEq, Repr

/-- The state of the block. The fields from cfg on are the model's own: see each. -/
structure State where
  /-- `mode` (R22). -/
  mode : Mode
  /-- Pack 0 (R35). -/
  pack0 : PackState
  /-- Pack 1 (R35). -/
  pack1 : PackState
  /-- `radio_en` (R28). -/
  radioEn : Bool
  /-- `ign_db` (R30). -/
  ignDb : Bool
  /-- `ign_cnt` (R30). -/
  ignCnt : Nat
  /-- `mbox` (R31). -/
  mbox : Option Bool
  /-- `halted` (R32). -/
  halted : Bool
  /-- The event trace, oldest first (R37). -/
  trace : List Event
  /-- `resp`, the response of the last command, none before the first one (R13; log 4). -/
  resp : Option Response
  /-- The parameters of R7, fixed for the whole run (R8, R34; log 1). -/
  cfg : Config
  /-- The command words the host has issued and the block has not yet taken, the next one first (R21; log 3). -/
  cmds : List Word
  /-- AFE answers fixed in advance, the next one first; when it is empty, the opaque Config.afeAnswer answers (R105; log 5). -/
  afeIn : List AfeReply
  /-- ADC answers fixed in advance, the next one first; when it is empty, the opaque Config.adcAnswer answers (R12; log 6). -/
  adcIn : List Int
  /-- How many oracle answers have been taken: the argument of the opaque answers (log 5, log 6). -/
  draws : Nat
deriving DecidableEq, Repr

/-- Why a step would stop with a fault: no reason exists. The block has no trap and no fault (R234, R239), and "No word is
`fault`: the model never stops on a word" (I16 of 93_implementation_defined.md; log 14). -/
inductive Fault where
deriving DecidableEq, Repr

/-- Why the model has no meaning for an instruction. -/
inductive Refusal where
  /-- Raised by an arm of exec for an instruction that is not modelled yet; safe. No arm raises it. -/
  | notModelled (mnemonic : String)
deriving DecidableEq, Repr

/-- An empty ring buffer, as reset leaves it: head 0, count 0, sum 0 (R24, R260). Its slots are "unspecified, and never read
before written" (D37); they are 0 here. DESIGN CHOICE (log 7), unsafe for a statement about a slot of State.reset alone. -/
def Ring.empty : Ring := { slots := List.replicate cap 0, head := 0, count := 0, sum := 0 }

/-- A pack as reset leaves it, with NUM_CELLS cell buffers (R35, R260). -/
def PackState.initial (c : Config) : PackState :=
  { mask := 0, buf := List.replicate c.numCells Ring.empty, tot := Ring.empty, enable := false, diag := false }

/-- The reset state of R260 under the parameters c. The last four fields are the model's own. -/
def State.resetWith (c : Config) : State where
  mode := .standby
  pack0 := PackState.initial c
  pack1 := PackState.initial c
  radioEn := false
  ignDb := false
  ignCnt := 0
  mbox := none
  halted := false
  trace := []
  resp := none
  cfg := c
  cmds := []
  afeIn := []
  adcIn := []
  draws := 0

/-- The machine right after reset, in a build that sets no parameter (R260; log 2). -/
def State.reset : State := State.resetWith Config.default

end Sys2Proof.Machine
end

