-- ==== Sys2Proof/Machine/Ops.lean ====
section
/-! DEFINITION. The named operations over the state: the primitives of 00_scope.md R12, the responses of R13, the ring-buffer push of 43_filter.md R140, refusal, halt and reset (60_exceptions.md R230 to R240). -/

namespace Sys2Proof.Machine

open Sys2Proof

/-! Per-pack registers (R23 to R29, R35). -/

/-- The state of pack p. -/
def State.pack (s : State) : Pack → PackState
  | .p0 => s.pack0
  | .p1 => s.pack1

/-- Write the state of pack p. -/
def State.setPack (s : State) (p : Pack) (q : PackState) : State :=
  match p with
  | .p0 => { s with pack0 := q }
  | .p1 => { s with pack1 := q }

/-- `mask[p]` (R23). -/
def State.mask (s : State) (p : Pack) : Mask := (s.pack p).mask

/-- `mask[p] <- m` (R23). -/
def State.setMask (s : State) (p : Pack) (m : Mask) : State := s.setPack p { s.pack p with mask := m }

/-- `diag[p] <- d` (R29). -/
def State.setDiag (s : State) (p : Pack) (d : Bool) : State := s.setPack p { s.pack p with diag := d }

/-- `buf[p][j]` (R24). Beyond the pack's buffers it reads as an empty buffer (log 8). -/
def State.cell (s : State) (p : Pack) (j : Nat) : Ring := (s.pack p).buf.getD j Ring.empty

/-- `buf[p][j] <- b` (R24). -/
def State.setCell (s : State) (p : Pack) (j : Nat) (b : Ring) : State :=
  s.setPack p { s.pack p with buf := (s.pack p).buf.set j b }

/-- `tot[p]` (R25). -/
def State.tot (s : State) (p : Pack) : Ring := (s.pack p).tot

/-- `tot[p] <- b` (R25). -/
def State.setTot (s : State) (p : Pack) (b : Ring) : State := s.setPack p { s.pack p with tot := b }

/-! Bit fields of masks and frames (R72 to R74). -/

/-- The mask's "byte1", `M[15:8]`: cells 0 to 7 (R23, R72). -/
def hiByte (m : Mask) : Byte := m.extractLsb 15 8

/-- The mask's "byte2", `M[7:0]`: cells 8 to 15 (R23, R72). -/
def loByte (m : Mask) : Byte := m.extractLsb 7 0

/-- `cellbit(j) = 15 - j` (R74). -/
def cellbit (j : Nat) : Nat := 15 - j

/-- `rx = zext_24(r0) | zext_24(r1) << 8 | zext_24(r2) << 16` (R52, R73). -/
def packReply (r : AfeReply) : Word24 :=
  r.r0.setWidth 24 ||| (r.r1.setWidth 24 <<< 8) ||| (r.r2.setWidth 24 <<< 16)

/-- Whether the low byte `rx[7:0]` of a response is non-zero (R73, R126). -/
def lowByteSet (rx : Word24) : Bool := rx.extractLsb 7 0 != 0

/-! The primitives of R12. -/

/-- Append one event to the trace (R12, R37). -/
def State.emit (s : State) (e : Event) : State := { s with trace := s.trace ++ [e] }

/-- What the AFE answers to the next frame (R105): the answer fixed in advance, else the free value (log 5). -/
def State.nextReply (s : State) : AfeReply :=
  match s.afeIn with
  | r :: _ => r
  | [] => Config.afeAnswer s.draws

/-- The response of the next frame, a u24 (R73, R105). -/
def State.nextRx (s : State) : Word24 := packReply s.nextReply

/-- `Frame(p, t0, t1, t2)`: one transfer on pack p's chip-select; its response is nextRx of the state before it (R100). -/
def State.frame (s : State) (p : Pack) (t0 t1 t2 : Byte) : State :=
  { s with afeIn := s.afeIn.tail, draws := s.draws + 1, trace := s.trace ++ [.frame p t0 t1 t2 s.nextRx] }

/-- A frame with the bytes of mask m and control byte t (R72). -/
def State.sendMask (s : State) (p : Pack) (m : Mask) (t : Byte) : State := s.frame p (hiByte m) (loByte m) t

/-- `SetLine(p, v)` (R12). -/
def State.setLine (s : State) (p : Pack) (v : Bool) : State :=
  (s.setPack p { s.pack p with enable := v }).emit (.en p v)

/-- `Delay(k)` (R12). -/
def State.delay (s : State) (k : DelayKind) : State := s.emit (.delay k)

/-- Bring a code into [ADC_MIN, ADC_MAX], the range of the ADC oracle (R12). -/
def clampCode (c : Config) (x : Int) : Int := max c.adcMin (min c.adcMax x)

/-- The code of the next conversion (R12): the answer fixed in advance, else the free value, within the range (log 6). -/
def State.nextCode (s : State) : Int :=
  clampCode s.cfg (match s.adcIn with
    | x :: _ => x
    | [] => Config.adcAnswer s.draws)

/-- `AdcRead(ch)`: one conversion on channel ch; its code is nextCode of the state before it (R12). -/
def State.adcRead (s : State) (ch : Nat) : State :=
  { s with adcIn := s.adcIn.tail, draws := s.draws + 1, trace := s.trace ++ [.adc ch s.nextCode] }

/-- `Radio(v)` (R12). -/
def State.radio (s : State) (v : Bool) : State := { s with radioEn := v }.emit (.radio v)

/-! Ring buffers (R50, R140). -/

/-- `RingRead(b, k)` (R11, R50). Beyond the slots it reads 0 (log 8). -/
def Ring.read (b : Ring) (k : Nat) : Int := b.slots.getD k 0

/-- `RingWrite(b, k, x)` (R11, R50). -/
def Ring.write (b : Ring) (k : Nat) (x : Int) : Ring := { b with slots := b.slots.set k x }

/-- `push(b, x)` (R140). -/
def Ring.push (b : Ring) (x : Int) : Ring :=
  let b' :=
    if b.count < cap then { b.write b.head x with sum := b.sum + x, count := b.count + 1 }
    else { b.write b.head x with sum := b.sum - b.read b.head + x }
  { b' with head := (b.head + 1) % cap }

/-- Push the code x into `buf[p][j]` (R140). -/
def State.pushCell (s : State) (p : Pack) (j : Nat) (x : Int) : State := s.setCell p j ((s.cell p j).push x)

/-- Push the total x into `tot[p]` (R140). -/
def State.pushTot (s : State) (p : Pack) (x : Int) : State := s.setTot p ((s.tot p).push x)

/-! Responses, refusal, halt and reset. The block has no trap (R239): a refusal is a response with no other effect, and
the halt flag is what ends the flow of commands. -/

/-- `resp <- (code, v)` (R13). -/
def State.respond (s : State) (code : Code) (v : Word) : State := { s with resp := some { code := code, value := v } }

/-- `resp <- OK` (R13, R84). -/
def State.done (s : State) : State := s.respond .ok 0

/-- `resp <- CODE; stop`: a refused command has value 0 and no other effect (R13, R230, R231). -/
def State.refuse (s : State) (code : Code) : State := s.respond code 0

/-- The HALTED check, before every other check of a command it applies to (R232, R233). -/
def State.unlessHalted (s : State) (body : State → State) : State :=
  if s.halted then s.refuse .halted else body s

/-- The fatal halt, the block's one trap-like event: it saves nothing and sets `halted` (R216, R239). -/
def State.enterHalt (s : State) : State := { s with halted := true }

/-- Reset, the only way out of the halt (R32, R240, R260): every piece of the block's state takes its reset value, a new
empty trace begins (R37) and no event is appended (R261). The parameters do not change (R8); the words the host has queued
and the oracles' answers are outside the block and stay (log 19). -/
def State.applyReset (s : State) : State :=
  { State.resetWith s.cfg with cmds := s.cmds, afeIn := s.afeIn, adcIn := s.adcIn, draws := s.draws }

end Sys2Proof.Machine
end

