-- ==== Sys2Proof/Machine/Operands.lean ====
section
/-! DEFINITION. The argument and mode checks of the commands (60_exceptions.md R230, R232) and the forms of response values (30_encoding.md R84). -/

namespace Sys2Proof.Machine

open Sys2Proof

/-- The BADARG check of PUSH and AVG: j must be below NUM_CELLS (R82). -/
def State.withCellArg (s : State) (j : Nat) (body : State → State) : State :=
  if s.cfg.numCells ≤ j then s.refuse .badArg else body s

/-- The mode gate of ACQ: not in STANDBY (R129). -/
def State.unlessStandby (s : State) (body : State → State) : State :=
  if s.mode = .standby then s.refuse .badMode else body s

/-- The mode gate of BALC and BALW: only in CHARGING (R182). -/
def State.onlyCharging (s : State) (body : State → State) : State :=
  if s.mode = .charging then body s else s.refuse .badMode

/-- A flag in bit 0 (R84). -/
def flagValue (b : Bool) : Word := (BitVec.ofBool b).setWidth 32

/-- A byte in [7:0] (R84). -/
def byteValue (b : Byte) : Word := b.setWidth 32

/-- A mask in [15:0] (R84, R169). -/
def maskValue (m : Mask) : Word := m.setWidth 32

/-- A frame's response in [23:0] (R55, R84). -/
def rxValue (rx : Word24) : Word := rx.setWidth 32

/-- The mode's code: STANDBY 0, DRIVING 1, CHARGING 2 (R22). -/
def modeCode : Mode → BitVec 2
  | .standby => 0
  | .driving => 1
  | .charging => 2

/-- The mode in [1:0] (R84, R168). -/
def modeValue (m : Mode) : Word := (modeCode m).setWidth 32

/-- `{count[4:0], 0b00, sum[24:0]}` (R84, R143, R144). -/
def meanValue (b : Ring) : Word := BitVec.ofNat 5 b.count ++ 0#2 ++ BitVec.ofInt 25 b.sum

/-- The numbers of the response codes (R84, R230). -/
def codeNumber : Code → Nat
  | .ok => 0
  | .illegal => 1
  | .halted => 2
  | .badArg => 3
  | .badMode => 4

end Sys2Proof.Machine
end

