-- ==== Sys2Proof/Machine/Acquisition.lean ====
section
/-! DEFINITION. The acquisition sequencer and its command ACQ (42_acquisition.md R120 to R129). -/

namespace Sys2Proof.Machine

open Sys2Proof

/-- Where an acquisition stands: the state, the diagnostic d and the running total of R120's pseudocode. -/
structure AcqProgress where
  st : State
  diag : Bool
  total : Int

/-- Step 1: the sample frame and its settle delay (R122). -/
def acqSample (s : State) (p : Pack) (m : Mask) : AcqProgress :=
  { st := (s.sendMask p m s.cfg.ctrlSample).delay .sampleSettle, diag := lowByteSet s.nextRx, total := 0 }

/-- Step 2 for cell j: select, settle, read, push (R123). -/
def acqCell (p : Pack) (m : Mask) (a : AcqProgress) (j : Nat) : AcqProgress :=
  let settled := (a.st.sendMask p m (a.st.cfg.selectByte j)).delay .muxSettle
  let code := settled.nextCode
  { st := (settled.adcRead (a.st.cfg.adcChannel p)).pushCell p j code,
    diag := a.diag || lowByteSet a.st.nextRx,
    total := a.total + code }

/-- The cells in order of acquisition, NUM_CELLS - 1 down to 0 (R120). -/
def cellsDown (n : Nat) : List Nat := (List.range n).reverse

/-- Step 3 and what follows it: restore frame, pack total, diagnostic (R124, R125, R126). -/
def acqFinish (p : Pack) (m : Mask) (a : AcqProgress) : State :=
  let restored := a.st.sendMask p m a.st.cfg.ctrlSample
  let summed := if restored.cfg.totalSource = .cellSum then restored.pushTot p a.total else restored
  let flagged := summed.setDiag p a.diag
  if a.diag then flagged.emit (.diag p) else flagged

/-- The body of ACQ after its mode check (R120); the mask is read once, at the start (R127). -/
def State.acquire (s : State) (p : Pack) : State :=
  acqFinish p (s.mask p) ((cellsDown s.cfg.numCells).foldl (acqCell p (s.mask p)) (acqSample s p (s.mask p)))

/-- ACQ p (R120). -/
def execAcq (p : Pack) (s : State) : Host.Outcome State Fault Refusal :=
  .next (s.unlessHalted fun s => s.unlessStandby fun s => (s.acquire p).done)

end Sys2Proof.Machine
end

