-- ==== Sys2Proof/Machine/Flags.lean ====
section
/-! DEFINITION. The comparator: every flag the block computes from its state, and the status and fault bytes (44_comparator.md R160 to R165, 45_balance.md R180). -/

namespace Sys2Proof.Machine

open Sys2Proof

/-- The mean of the buffer is at least V_UP, and there is a mean: `sum * FSR * 20 >= 83 * count * 2^ADC_RES`, with
FSR = fsrNum / fsrDen brought to integers (R149, R160, R180; log 12). -/
def Ring.atLeastUpper (c : Config) (b : Ring) : Bool :=
  decide (0 < b.count) && decide (83 * (b.count : Int) * 2 ^ c.adcRes * c.fsrDen ≤ b.sum * c.fsrNum * 20)

/-- The mean of the buffer is below V_LO, and there is a mean: `sum * FSR * 5 < 17 * count * 2^ADC_RES` (R149, R161; log 12). -/
def Ring.belowLower (c : Config) (b : Ring) : Bool :=
  decide (0 < b.count) && decide (b.sum * c.fsrNum * 5 < 17 * (b.count : Int) * 2 ^ c.adcRes * c.fsrDen)

/-- Some cell j < NUM_CELLS of pack p satisfies f. -/
def State.anyCell (s : State) (p : Pack) (f : Ring → Bool) : Bool :=
  (List.range s.cfg.numCells).any fun j => f (s.cell p j)

/-- OV (R160). -/
def State.overVoltage (s : State) : Bool :=
  s.anyCell .p0 (Ring.atLeastUpper s.cfg) || s.anyCell .p1 (Ring.atLeastUpper s.cfg)

/-- UV (R161). -/
def State.underVoltage (s : State) : Bool :=
  s.anyCell .p0 (Ring.belowLower s.cfg) || s.anyCell .p1 (Ring.belowLower s.cfg)

/-- BAL (R162). -/
def State.balancing (s : State) : Bool := s.mask .p0 != 0 || s.mask .p1 != 0

/-- OT, "always false until temperature sensing is added" (R163, I10). -/
def State.overTemperature (_ : State) : Bool := false

/-- STATUS: bit 0 OV, bit 1 UV, bit 2 BAL, bits 7:3 zero (R164). -/
def State.statusByte (s : State) : Byte :=
  0#5 ++ BitVec.ofBool s.balancing ++ BitVec.ofBool s.underVoltage ++ BitVec.ofBool s.overVoltage

/-- FAULT: bit 2 OT, every other bit zero (R165). -/
def State.faultByte (s : State) : Byte := 0#5 ++ BitVec.ofBool s.overTemperature ++ 0#1 ++ 0#1

/-- The mask BALC builds for pack p from zero: bit 15 - j for each cell j < NUM_CELLS whose mean is at least V_UP (R180). -/
def State.dischargeMask (s : State) (p : Pack) : Mask :=
  (List.range s.cfg.numCells).foldl
    (fun m j => if (s.cell p j).atLeastUpper s.cfg then m ||| (1#16 <<< cellbit j) else m) 0

end Sys2Proof.Machine
end

