-- ==== Sys2Proof/Machine/Balance.lean ====
section
/-! DEFINITION. The cell-discharge selector: BALC and BALW (45_balance.md R180 to R185). -/

namespace Sys2Proof.Machine

open Sys2Proof

/-- The body of BALC after its mode check: rebuild the mask from zero (R180). -/
def State.rebuildMask (s : State) (p : Pack) : State := s.setMask p (s.dischargeMask p)

/-- The body of BALW after its mode check: the balance-set frame; its response is not examined (R181). -/
def State.commitMask (s : State) (p : Pack) : State := s.sendMask p (s.mask p) s.cfg.ctrlBalset

/-- BALC p (R180). -/
def execBalc (p : Pack) (s : State) : Host.Outcome State Fault Refusal :=
  .next (s.unlessHalted fun s => s.onlyCharging fun s => (s.rebuildMask p).done)

/-- BALW p (R181). -/
def execBalw (p : Pack) (s : State) : Host.Outcome State Fault Refusal :=
  .next (s.unlessHalted fun s => s.onlyCharging fun s => (s.commitMask p).done)

end Sys2Proof.Machine
end

