-- ==== Sys2Proof/Machine/Comparator.lean ====
section
/-! DEFINITION. The queries of opcode 0x8, pure reads answered in every mode and while halted (44_comparator.md R160 to R169). -/

namespace Sys2Proof.Machine

open Sys2Proof

/-- OVQ (R160). -/
def execOvq (s : State) : Host.Outcome State Fault Refusal := .next (s.respond .ok (flagValue s.overVoltage))

/-- UVQ (R161). -/
def execUvq (s : State) : Host.Outcome State Fault Refusal := .next (s.respond .ok (flagValue s.underVoltage))

/-- BALQ (R162). -/
def execBalq (s : State) : Host.Outcome State Fault Refusal := .next (s.respond .ok (flagValue s.balancing))

/-- OTQ (R163). -/
def execOtq (s : State) : Host.Outcome State Fault Refusal := .next (s.respond .ok (flagValue s.overTemperature))

/-- STATQ (R164). -/
def execStatq (s : State) : Host.Outcome State Fault Refusal := .next (s.respond .ok (byteValue s.statusByte))

/-- FLTQ (R165). -/
def execFltq (s : State) : Host.Outcome State Fault Refusal := .next (s.respond .ok (byteValue s.faultByte))

/-- DIAGQ p (R167). -/
def execDiagq (p : Pack) (s : State) : Host.Outcome State Fault Refusal :=
  .next (s.respond .ok (flagValue (s.pack p).diag))

/-- MODEQ (R168). -/
def execModeq (s : State) : Host.Outcome State Fault Refusal := .next (s.respond .ok (modeValue s.mode))

/-- MASKQ p (R169). -/
def execMaskq (p : Pack) (s : State) : Host.Outcome State Fault Refusal :=
  .next (s.respond .ok (maskValue (s.mask p)))

end Sys2Proof.Machine
end

