-- ==== Sys2Proof/Machine/ModeControl.lean ====
section
/-! DEFINITION. The mode controller: debouncer, transitions, WAKE and SLEEP, mailbox, and POLL, MPOST, MDRAIN, HALT (46_mode.md R190 to R216). -/

namespace Sys2Proof.Machine

open Sys2Proof

/-- `debounce(x)` of one raw ignition sample (R190). -/
def State.debounce (s : State) (x : Bool) : State :=
  if x = s.ignDb then { s with ignCnt := 0 }
  else if s.cfg.ignDebounceN ≤ s.ignCnt + 1 then { s with ignDb := x, ignCnt := 0 }
  else { s with ignCnt := s.ignCnt + 1 }

/-- One pack's part of WAKE: line high, then the wake frame with a zero mask (R194). -/
def State.wakePack (s : State) (p : Pack) : State := (s.setLine p true).sendMask p 0 s.cfg.ctrlWake

/-- WAKE: clear both masks, wake pack 0 then pack 1, radio on (R194). -/
def State.wake (s : State) : State :=
  ((((s.setMask .p0 0).setMask .p1 0).wakePack .p0).wakePack .p1).radio true

/-- One pack's part of SLEEP: the low-power frame with a zero mask, then line low (R195). -/
def State.sleepPack (s : State) (p : Pack) : State := (s.sendMask p 0 s.cfg.ctrlSleep).setLine p false

/-- SLEEP: pack 0 then pack 1, radio off; the masks keep their values (R195). -/
def State.sleep (s : State) : State := ((s.sleepPack .p0).sleepPack .p1).radio false

/-- `mode <- m` (R22). -/
def State.setMode (s : State) (m : Mode) : State := { s with mode := m }

/-- The transition function `trans(ign, cp)` (R193): levels, at most one transition, the charge port first in STANDBY
(R192, R197, R198). -/
def State.trans (s : State) (ign cp : Bool) : State :=
  match s.mode with
  | .standby => if cp then (s.setMode .charging).wake else if ign then (s.setMode .driving).wake else s
  | .driving => if ign then s else (s.setMode .standby).sleep
  | .charging => if cp then s else (s.setMode .standby).sleep

/-- Debounce the ignition sample, then evaluate the transition function (R212, R226). -/
def State.pollInputs (s : State) (ign cp : Bool) : State :=
  let d := s.debounce ign
  d.trans d.ignDb cp

/-- Empty a full mailbox and apply its level; the debouncer is not run (R214, R221). -/
def State.drainMailbox (s : State) : State :=
  match s.mbox with
  | none => s
  | some v => { s with mbox := none }.trans s.ignDb v

/-- POLL ign, cp (R212). -/
def execPoll (ign cp : Bool) (s : State) : Host.Outcome State Fault Refusal :=
  .next (s.unlessHalted fun s => (s.pollInputs ign cp).done)

/-- MPOST cp: the charge-port interrupt, kept only if CP_IRQ_ENABLE; a full mailbox is overwritten (R213, R215, R236). -/
def execMpost (cp : Bool) (s : State) : Host.Outcome State Fault Refusal :=
  .next (s.unlessHalted fun s => (if s.cfg.cpIrqEnable then { s with mbox := some cp } else s).done)

/-- MDRAIN (R214). -/
def execMdrain (s : State) : Host.Outcome State Fault Refusal :=
  .next (s.unlessHalted fun s => s.drainMailbox.done)

/-- HALT: accepted while halted too (R216). -/
def execHalt (s : State) : Host.Outcome State Fault Refusal := .next s.enterHalt.done

end Sys2Proof.Machine
end

