-- ==== Sys2Proof/Machine/Cycle.lean ====
section
/-! DEFINITION. The scheduler cycle, CYCLE (47_cycle.md R220 to R229). -/

namespace Sys2Proof.Machine

open Sys2Proof

/-- Step 2: acquire pack 0 and then pack 1, in DRIVING and CHARGING (R222). -/
def State.cycleAcquire (s : State) : State :=
  match s.mode with
  | .standby => s
  | .driving => (s.acquire .p0).acquire .p1
  | .charging => (s.acquire .p0).acquire .p1

/-- Step 4 for one pack in CHARGING: rebuild its mask and commit it (R224). -/
def State.balancePack (s : State) (p : Pack) : State := (s.rebuildMask p).commitMask p

/-- Step 4: balance both packs and emit CAN in CHARGING, emit TELEMETRY in DRIVING (R224, R225). The bytes of the CAN event
are those of the state with the new masks in place. -/
def State.cycleActions (s : State) : State :=
  match s.mode with
  | .standby => s
  | .driving => s.emit .telemetry
  | .charging =>
    let balanced := (s.balancePack .p0).balancePack .p1
    balanced.emit (.can balanced.statusByte balanced.faultByte)

/-- The five steps of a cycle; step 3, the safety point, changes nothing (R220, R223). -/
def State.cycleBody (s : State) (ign cp : Bool) : State :=
  s.drainMailbox.cycleAcquire.cycleActions.pollInputs ign cp

/-- CYCLE ign, cp (R220). -/
def execCycle (ign cp : Bool) (s : State) : Host.Outcome State Fault Refusal :=
  .next (s.unlessHalted fun s => (s.cycleBody ign cp).done)

end Sys2Proof.Machine
end

