-- ==== Sys2Proof/Machine/Filter.lean ====
section
/-! DEFINITION. The filter commands PUSH, PUSHT, AVG, AVGT and the mean in volts (43_filter.md R140 to R150). -/

namespace Sys2Proof.Machine

open Sys2Proof

/-- PUSH p, j, code (R141). -/
def execPush (p : Pack) (j : Nat) (code : Int) (s : State) : Host.Outcome State Fault Refusal :=
  .next (s.unlessHalted fun s => s.withCellArg j fun s => (s.pushCell p j code).done)

/-- PUSHT p, tot (R142). -/
def execPusht (p : Pack) (tot : Int) (s : State) : Host.Outcome State Fault Refusal :=
  .next (s.unlessHalted fun s => (s.pushTot p tot).done)

/-- AVG p, j: also answered while halted (R143). -/
def execAvg (p : Pack) (j : Nat) (s : State) : Host.Outcome State Fault Refusal :=
  .next (s.withCellArg j fun s => s.respond .ok (meanValue (s.cell p j)))

/-- AVGT p: also answered while halted (R144). -/
def execAvgt (p : Pack) (s : State) : Host.Outcome State Fault Refusal :=
  .next (s.respond .ok (meanValue (s.tot p)))

/-- The mean of a buffer in volts, `S * SCALE / n`, exact; none for an empty buffer (R14, R148, R149). -/
def Ring.meanVolts (c : Config) (b : Ring) : Option ℚ :=
  if b.count = 0 then none else some ((b.sum : ℚ) * c.scale / (b.count : ℚ))

/-- `get_cell_voltage(pack, cell)` (R143, R148). -/
def State.cellVoltage (s : State) (p : Pack) (j : Nat) : Option ℚ := (s.cell p j).meanVolts s.cfg

/-- `get_pack_voltage(pack)` (R144, R148). -/
def State.packVoltage (s : State) (p : Pack) : Option ℚ := (s.tot p).meanVolts s.cfg

end Sys2Proof.Machine
end

