-- ==== Sys2Proof/Machine/Transport.lean ====
section
/-! DEFINITION. The transport commands XFER3 and SETEN (41_transport.md R102, R103), and the five AFE frame kinds as single transfers (30_encoding.md R75). -/

namespace Sys2Proof.Machine

open Sys2Proof

/-- XFER3 p, b0, b1, b2: one raw frame, answered with its response (R102). -/
def execXfer3 (p : Pack) (b0 b1 b2 : Byte) (s : State) : Host.Outcome State Fault Refusal :=
  .next (s.unlessHalted fun s => (s.frame p b0 b1 b2).respond .ok (rxValue s.nextRx))

/-- SETEN p, v: drive pack p's enable line (R103). -/
def execSeten (p : Pack) (v : Bool) (s : State) : Host.Outcome State Fault Refusal :=
  .next (s.unlessHalted fun s => (s.setLine p v).done)

/-- One frame of a kind of R75, sent by the block: no response, since it is no command; nothing while halted, when "the
block sends no frame" (R233; log 9). -/
def State.sendKind (s : State) (p : Pack) (m : Mask) (t : Byte) : State :=
  if s.halted then s else s.sendMask p m t

/-- AFE.SAMPLE: mask bytes and CTRL_SAMPLE (R122, R125). -/
def execAfeSample (p : Pack) (s : State) : Host.Outcome State Fault Refusal :=
  .next (s.sendKind p (s.mask p) s.cfg.ctrlSample)

/-- AFE.SELECT: mask bytes and CTRL_SELECT(j) (R123). -/
def execAfeSelect (p : Pack) (j : Nat) (s : State) : Host.Outcome State Fault Refusal :=
  .next (s.sendKind p (s.mask p) (s.cfg.selectByte j))

/-- AFE.BALSET: mask bytes and CTRL_BALSET (R181). -/
def execAfeBalset (p : Pack) (s : State) : Host.Outcome State Fault Refusal :=
  .next (s.sendKind p (s.mask p) s.cfg.ctrlBalset)

/-- AFE.SLEEP: zero mask bytes and CTRL_SLEEP (R195). -/
def execAfeSleep (p : Pack) (s : State) : Host.Outcome State Fault Refusal :=
  .next (s.sendKind p 0 s.cfg.ctrlSleep)

/-- AFE.WAKE: zero mask bytes and CTRL_WAKE (R194). -/
def execAfeWake (p : Pack) (s : State) : Host.Outcome State Fault Refusal :=
  .next (s.sendKind p 0 s.cfg.ctrlWake)

end Sys2Proof.Machine
end

