-- ==== Sys2Proof/Syntax.lean ====
section
/-! DEFINITION. The instructions: the 23 commands and the 5 AFE frame kinds of spec/opcode_table.json (30_encoding.md R75, R78, R79). -/

namespace Sys2Proof

/-- One constructor per row of spec/opcode_table.json, operands as R77 assembles them: a cell index and a sample are
numbers (their ranges are WellFormed's checks, R85), bytes are bytes, flags are Booleans. -/
inductive Instr where
  /-- XFER3 p, b0, b1, b2 (R102). -/
  | xfer3 (p : Pack) (b0 b1 b2 : Byte)
  /-- SETEN p, v (R103). -/
  | seten (p : Pack) (v : Bool)
  /-- ACQ p (R120). -/
  | acq (p : Pack)
  /-- PUSH p, j, code (R141). -/
  | push (p : Pack) (j : Nat) (code : Int)
  /-- PUSHT p, tot (R142). -/
  | pusht (p : Pack) (tot : Int)
  /-- AVG p, j (R143). -/
  | avg (p : Pack) (j : Nat)
  /-- AVGT p (R144). -/
  | avgt (p : Pack)
  /-- OVQ (R160). -/
  | ovq
  /-- UVQ (R161). -/
  | uvq
  /-- BALQ (R162). -/
  | balq
  /-- OTQ (R163). -/
  | otq
  /-- STATQ (R164). -/
  | statq
  /-- FLTQ (R165). -/
  | fltq
  /-- DIAGQ p (R167). -/
  | diagq (p : Pack)
  /-- MODEQ (R168). -/
  | modeq
  /-- MASKQ p (R169). -/
  | maskq (p : Pack)
  /-- BALC p (R180). -/
  | balc (p : Pack)
  /-- BALW p (R181). -/
  | balw (p : Pack)
  /-- POLL ign, cp (R212). -/
  | poll (ign cp : Bool)
  /-- MPOST cp (R213). -/
  | mpost (cp : Bool)
  /-- MDRAIN (R214). -/
  | mdrain
  /-- CYCLE ign, cp (R220). -/
  | cycle (ign cp : Bool)
  /-- HALT (R216). -/
  | halt
  /-- AFE.SAMPLE, the sample or restore frame of pack p (R122, R125). The chip-select p stands beside the frame's 24 bits (R100). -/
  | afeSample (p : Pack)
  /-- AFE.SELECT, the select frame of cell j of pack p (R123). -/
  | afeSelect (p : Pack) (j : Nat)
  /-- AFE.BALSET, the balance-set frame of pack p (R181). -/
  | afeBalset (p : Pack)
  /-- AFE.SLEEP, the low-power frame of pack p (R195). -/
  | afeSleep (p : Pack)
  /-- AFE.WAKE, the wake frame of pack p (R194). -/
  | afeWake (p : Pack)
deriving DecidableEq, Repr

/-- The row's mnemonic in spec/opcode_table.json. -/
def Instr.mnemonic : Instr → String
  | .xfer3 _ _ _ _ => "XFER3"
  | .seten _ _ => "SETEN"
  | .acq _ => "ACQ"
  | .push _ _ _ => "PUSH"
  | .pusht _ _ => "PUSHT"
  | .avg _ _ => "AVG"
  | .avgt _ => "AVGT"
  | .ovq => "OVQ"
  | .uvq => "UVQ"
  | .balq => "BALQ"
  | .otq => "OTQ"
  | .statq => "STATQ"
  | .fltq => "FLTQ"
  | .diagq _ => "DIAGQ"
  | .modeq => "MODEQ"
  | .maskq _ => "MASKQ"
  | .balc _ => "BALC"
  | .balw _ => "BALW"
  | .poll _ _ => "POLL"
  | .mpost _ => "MPOST"
  | .mdrain => "MDRAIN"
  | .cycle _ _ => "CYCLE"
  | .halt => "HALT"
  | .afeSample _ => "AFE.SAMPLE"
  | .afeSelect _ _ => "AFE.SELECT"
  | .afeBalset _ => "AFE.BALSET"
  | .afeSleep _ => "AFE.SLEEP"
  | .afeWake _ => "AFE.WAKE"

end Sys2Proof
end

