-- ==== Sys2Proof/Machine/Dispatch.lean ====
section
/-! DEFINITION. The dispatch: one arm per constructor of Instr, each one call of its meaning. -/

namespace Sys2Proof.Machine

open Sys2Proof

def exec (i : Instr) (s : State) : Host.Outcome State Fault Refusal :=
  match i with
  | .xfer3 p b0 b1 b2 => Sys2Proof.Machine.execXfer3 p b0 b1 b2 s
  | .seten p v => Sys2Proof.Machine.execSeten p v s
  | .acq p => Sys2Proof.Machine.execAcq p s
  | .push p j code => Sys2Proof.Machine.execPush p j code s
  | .pusht p tot => Sys2Proof.Machine.execPusht p tot s
  | .avg p j => Sys2Proof.Machine.execAvg p j s
  | .avgt p => Sys2Proof.Machine.execAvgt p s
  | .ovq => Sys2Proof.Machine.execOvq s
  | .uvq => Sys2Proof.Machine.execUvq s
  | .balq => Sys2Proof.Machine.execBalq s
  | .otq => Sys2Proof.Machine.execOtq s
  | .statq => Sys2Proof.Machine.execStatq s
  | .fltq => Sys2Proof.Machine.execFltq s
  | .diagq p => Sys2Proof.Machine.execDiagq p s
  | .modeq => Sys2Proof.Machine.execModeq s
  | .maskq p => Sys2Proof.Machine.execMaskq p s
  | .balc p => Sys2Proof.Machine.execBalc p s
  | .balw p => Sys2Proof.Machine.execBalw p s
  | .poll ign cp => Sys2Proof.Machine.execPoll ign cp s
  | .mpost cp => Sys2Proof.Machine.execMpost cp s
  | .mdrain => Sys2Proof.Machine.execMdrain s
  | .cycle ign cp => Sys2Proof.Machine.execCycle ign cp s
  | .halt => Sys2Proof.Machine.execHalt s
  | .afeSample p => Sys2Proof.Machine.execAfeSample p s
  | .afeSelect p j => Sys2Proof.Machine.execAfeSelect p j s
  | .afeBalset p => Sys2Proof.Machine.execAfeBalset p s
  | .afeSleep p => Sys2Proof.Machine.execAfeSleep p s
  | .afeWake p => Sys2Proof.Machine.execAfeWake p s

end Sys2Proof.Machine
end

