-- ==== Sys2Proof/WellFormed.lean ====
section
/-! DEFINITION. Which instructions have an encoding: operands in their field's range (30_encoding.md R77, R85) and a command word of their own (R78, R79). -/

namespace Sys2Proof

/-- The operand ranges of R77 and R85: j in 0..15, code a 16-bit and tot a 20-bit two's-complement number. The ranges of
p, of the bytes and of the flags hold by their types. -/
def Instr.wellFormed : Instr → Bool
  | .push _ j code => decide (j ≤ 15) && decide (-32768 ≤ code) && decide (code ≤ 32767)
  | .pusht _ tot => decide (-524288 ≤ tot) && decide (tot ≤ 524287)
  | .avg _ j => decide (j ≤ 15)
  | .afeSelect _ j => decide (j ≤ 15)
  | .xfer3 _ _ _ _ => true
  | .seten _ _ => true
  | .acq _ => true
  | .avgt _ => true
  | .ovq => true
  | .uvq => true
  | .balq => true
  | .otq => true
  | .statq => true
  | .fltq => true
  | .diagq _ => true
  | .modeq => true
  | .maskq _ => true
  | .balc _ => true
  | .balw _ => true
  | .poll _ _ => true
  | .mpost _ => true
  | .mdrain => true
  | .cycle _ _ => true
  | .halt => true
  | .afeSample _ => true
  | .afeBalset _ => true
  | .afeSleep _ => true
  | .afeWake _ => true

/-- Whether the instruction is a command, that is, has a command word (R78, R79). The five frame kinds of R75 are frames
the block sends: they have 24 bits on the wire and no command word. -/
def Instr.isCommand : Instr → Bool
  | .xfer3 _ _ _ _ => true
  | .seten _ _ => true
  | .acq _ => true
  | .push _ _ _ => true
  | .pusht _ _ => true
  | .avg _ _ => true
  | .avgt _ => true
  | .ovq => true
  | .uvq => true
  | .balq => true
  | .otq => true
  | .statq => true
  | .fltq => true
  | .diagq _ => true
  | .modeq => true
  | .maskq _ => true
  | .balc _ => true
  | .balw _ => true
  | .poll _ _ => true
  | .mpost _ => true
  | .mdrain => true
  | .cycle _ _ => true
  | .halt => true
  | .afeSample _ => false
  | .afeSelect _ _ => false
  | .afeBalset _ => false
  | .afeSleep _ => false
  | .afeWake _ => false

end Sys2Proof
end

