-- ==== Sys2Proof/Decode.lean ====
section
/-! DEFINITION. The command decoder, its encoder, and the same for the five AFE frame kinds (30_encoding.md R70 to R86). -/

namespace Sys2Proof

/-- Why a word is ILLEGAL (R80): opcode 0x0, a query sub-function 9 to 15, or a reserved bit set. -/
inductive DecodeError where
  | reservedOpcode
  | reservedSub
  | reservedBits
deriving DecidableEq, Repr

/-- The command formats of R71; FQ in its two shapes, with and without the pack field (R79). -/
inductive Format where
  | fx
  | fp
  | fpv
  | fpjc
  | fpt
  | fpj
  | fqp
  | fq
  | fic
  | fc
  | fn
deriving DecidableEq, Repr

/-- The bit fields [hi:lo] a format reserves; every bit of them must be 0 (R70, R71). -/
def Format.reserved : Format → List (Nat × Nat)
  | .fx => [(27, 25)]
  | .fp => [(27, 25), (23, 0)]
  | .fpv => [(27, 25), (23, 1)]
  | .fpjc => [(27, 25), (19, 16)]
  | .fpt => [(27, 25), (23, 20)]
  | .fpj => [(27, 25), (19, 0)]
  | .fqp => [(27, 25), (23, 4)]
  | .fq => [(27, 4)]
  | .fic => [(27, 2)]
  | .fc => [(27, 1)]
  | .fn => [(27, 0)]

/-- No reserved bit of the format is set. -/
def reservedClear (f : Format) (w : Word) : Bool :=
  f.reserved.all fun r => w.extractLsb r.1 r.2 == 0

/-! Operand assembly (R77). -/

/-- `p = w[24]`. -/
def fieldP (w : Word) : Pack := if w.getLsbD 24 then .p1 else .p0

/-- `j = w[23:20]`. -/
def fieldJ (w : Word) : Nat := (w.extractLsb 23 20).toNat

/-- `code = sext_16(w[15:0])`. -/
def fieldCode (w : Word) : Int := (w.extractLsb 15 0).toInt

/-- `tot = sext_20(w[19:0])`. -/
def fieldTot (w : Word) : Int := (w.extractLsb 19 0).toInt

/-- A command of format f, unless a reserved bit is set (R70, R80). -/
def decodeAs (f : Format) (w : Word) (i : Instr) : Except DecodeError Instr :=
  if reservedClear f w then .ok i else .error .reservedBits

/-- The queries, opcode 0x8, by `sub = w[3:0]` (R79). -/
def decodeQuery (w : Word) : Except DecodeError Instr :=
  match (w.extractLsb 3 0).toNat with
  | 0 => decodeAs .fq w .ovq
  | 1 => decodeAs .fq w .uvq
  | 2 => decodeAs .fq w .balq
  | 3 => decodeAs .fq w .otq
  | 4 => decodeAs .fq w .statq
  | 5 => decodeAs .fq w .fltq
  | 6 => decodeAs .fqp w (.diagq (fieldP w))
  | 7 => decodeAs .fq w .modeq
  | 8 => decodeAs .fqp w (.maskq (fieldP w))
  | _ => .error .reservedSub

/-- The decoder, total on all 2^32 words (R78, R80). -/
def decode (w : Word) : Except DecodeError Instr :=
  match (w.extractLsb 31 28).toNat with
  | 1 => decodeAs .fx w (.xfer3 (fieldP w) (w.extractLsb 7 0) (w.extractLsb 15 8) (w.extractLsb 23 16))
  | 2 => decodeAs .fpv w (.seten (fieldP w) (w.getLsbD 0))
  | 3 => decodeAs .fp w (.acq (fieldP w))
  | 4 => decodeAs .fpjc w (.push (fieldP w) (fieldJ w) (fieldCode w))
  | 5 => decodeAs .fpt w (.pusht (fieldP w) (fieldTot w))
  | 6 => decodeAs .fpj w (.avg (fieldP w) (fieldJ w))
  | 7 => decodeAs .fp w (.avgt (fieldP w))
  | 8 => decodeQuery w
  | 9 => decodeAs .fp w (.balc (fieldP w))
  | 10 => decodeAs .fp w (.balw (fieldP w))
  | 11 => decodeAs .fic w (.poll (w.getLsbD 1) (w.getLsbD 0))
  | 12 => decodeAs .fc w (.mpost (w.getLsbD 0))
  | 13 => decodeAs .fn w .mdrain
  | 14 => decodeAs .fic w (.cycle (w.getLsbD 1) (w.getLsbD 0))
  | 15 => decodeAs .fn w .halt
  | _ => .error .reservedOpcode

/-! The encoder (R70, R71, R77). -/

/-- The pack field, one bit (R77). -/
def packBit : Pack → BitVec 1
  | .p0 => 0
  | .p1 => 1

/-- A flag's bit (R77). -/
def flagBit (b : Bool) : BitVec 1 := BitVec.ofBool b

/-- Formats FP and the queries that take a pack: opcode, p, and the low 24 bits (R71). -/
def packWord (op : BitVec 4) (p : Pack) (low : BitVec 24) : Word := op ++ 0#3 ++ packBit p ++ low

/-- The command word of an instruction; none for the frame kinds, which have no command word (R75, R78). -/
def encode : Instr → Option Word
  | .xfer3 p b0 b1 b2 => some (packWord 0x1 p (b2 ++ b1 ++ b0))
  | .seten p v => some (packWord 0x2 p (0#23 ++ flagBit v))
  | .acq p => some (packWord 0x3 p 0)
  | .push p j code => some (packWord 0x4 p (BitVec.ofNat 4 j ++ 0#4 ++ BitVec.ofInt 16 code))
  | .pusht p tot => some (packWord 0x5 p (0#4 ++ BitVec.ofInt 20 tot))
  | .avg p j => some (packWord 0x6 p (BitVec.ofNat 4 j ++ 0#20))
  | .avgt p => some (packWord 0x7 p 0)
  | .ovq => some (packWord 0x8 .p0 0)
  | .uvq => some (packWord 0x8 .p0 1)
  | .balq => some (packWord 0x8 .p0 2)
  | .otq => some (packWord 0x8 .p0 3)
  | .statq => some (packWord 0x8 .p0 4)
  | .fltq => some (packWord 0x8 .p0 5)
  | .diagq p => some (packWord 0x8 p 6)
  | .modeq => some (packWord 0x8 .p0 7)
  | .maskq p => some (packWord 0x8 p 8)
  | .balc p => some (packWord 0x9 p 0)
  | .balw p => some (packWord 0xA p 0)
  | .poll ign cp => some (packWord 0xB .p0 (0#22 ++ flagBit ign ++ flagBit cp))
  | .mpost cp => some (packWord 0xC .p0 (0#23 ++ flagBit cp))
  | .mdrain => some (packWord 0xD .p0 0)
  | .cycle ign cp => some (packWord 0xE .p0 (0#22 ++ flagBit ign ++ flagBit cp))
  | .halt => some (packWord 0xF .p0 0)
  | .afeSample _ => none
  | .afeSelect _ _ => none
  | .afeBalset _ => none
  | .afeSleep _ => none
  | .afeWake _ => none

/-- The 23 command rows of spec/opcode_table.json, written out: mnemonic, match, mask (R80). The decoder does not read
it: that the two agree is a statement. -/
def commandTable : List (String × Word × Word) :=
  [
    ("XFER3", 0x10000000#32, 0xfe000000#32),
    ("SETEN", 0x20000000#32, 0xfefffffe#32),
    ("ACQ", 0x30000000#32, 0xfeffffff#32),
    ("PUSH", 0x40000000#32, 0xfe0f0000#32),
    ("PUSHT", 0x50000000#32, 0xfef00000#32),
    ("AVG", 0x60000000#32, 0xfe0fffff#32),
    ("AVGT", 0x70000000#32, 0xfeffffff#32),
    ("OVQ", 0x80000000#32, 0xffffffff#32),
    ("UVQ", 0x80000001#32, 0xffffffff#32),
    ("BALQ", 0x80000002#32, 0xffffffff#32),
    ("OTQ", 0x80000003#32, 0xffffffff#32),
    ("STATQ", 0x80000004#32, 0xffffffff#32),
    ("FLTQ", 0x80000005#32, 0xffffffff#32),
    ("DIAGQ", 0x80000006#32, 0xfeffffff#32),
    ("MODEQ", 0x80000007#32, 0xffffffff#32),
    ("MASKQ", 0x80000008#32, 0xfeffffff#32),
    ("BALC", 0x90000000#32, 0xfeffffff#32),
    ("BALW", 0xa0000000#32, 0xfeffffff#32),
    ("POLL", 0xb0000000#32, 0xfffffffc#32),
    ("MPOST", 0xc0000000#32, 0xfffffffe#32),
    ("MDRAIN", 0xd0000000#32, 0xffffffff#32),
    ("CYCLE", 0xe0000000#32, 0xfffffffc#32),
    ("HALT", 0xf0000000#32, 0xffffffff#32)
  ]

/-! The AFE frame kinds on the wire (R72, R75): 24 bits, t0 in [23:16], t1 in [15:8], t2 in [7:0], as the table numbers
them. -/

/-- The frame of a frame kind whose pack's mask is m, under the control bytes of c (R75). None for a command. -/
def encodeFrame (c : Config) (m : Mask) : Instr → Option Word24
  | .afeSample _ => some (m ++ c.ctrlSample)
  | .afeSelect _ j => some (m ++ c.selectByte j)
  | .afeBalset _ => some (m ++ c.ctrlBalset)
  | .afeSleep _ => some (0#16 ++ c.ctrlSleep)
  | .afeWake _ => some (0#16 ++ c.ctrlWake)
  | _ => none

/-- The cell whose select byte is t, if any cell has it. -/
def selectedCell (c : Config) (t : Byte) : Option Nat :=
  (List.range c.numCells).find? fun j => c.selectByte j == t

/-- The frame kind a frame on pack p's chip-select is, read from its control byte; SLEEP and WAKE frames carry a zero
mask (R75). The spec does not say that the control bytes differ (R76): where two are equal, the first of SAMPLE, SELECT,
BALSET, SLEEP, WAKE is taken. DESIGN CHOICE (log 11), unsafe; no step uses it. -/
def decodeFrame (c : Config) (p : Pack) (f : Word24) : Option Instr :=
  let t := f.extractLsb 7 0
  let m := f.extractLsb 23 8
  if t = c.ctrlSample then some (.afeSample p)
  else
    match selectedCell c t with
    | some j => some (.afeSelect p j)
    | none =>
      if t = c.ctrlBalset then some (.afeBalset p)
      else if t = c.ctrlSleep ∧ m = 0 then some (.afeSleep p)
      else if t = c.ctrlWake ∧ m = 0 then some (.afeWake p)
      else none

/-- The host's question: what the command decoder reads from a table row's bits, the bits above nbits 0. A row of 24 bits
is a frame kind, which the block sends and never fetches: as a word it has opcode 0x0 and is ILLEGAL (R80; log 10). -/
def decodeTableWord (nbits w : Nat) : Option Instr :=
  match decode (BitVec.ofNat 32 (w % 2 ^ nbits)) with
  | .ok i => some i
  | .error _ => none

end Sys2Proof
end

