-- ==== Sys2Proof/Machine/Fetch.lean ====
section
/-! DEFINITION. How the block takes its next command from the host, and how an ILLEGAL word is answered (10_state.md R21, 30_encoding.md R80). -/

namespace Sys2Proof.Machine

open Sys2Proof

/-- What the block finds when it looks for a command: no word, an ILLEGAL word, or a command. -/
inductive Fetched where
  | idle
  | illegal
  | command (i : Instr)
deriving DecidableEq, Repr

/-- The next command word, decoded (R21, R80). -/
def State.fetched (s : State) : Fetched :=
  match s.cmds with
  | [] => .idle
  | w :: _ =>
    match decode w with
    | .ok i => .command i
    | .error _ => .illegal

/-- The word is taken from the host: commands come "one at a time" (R21). -/
def State.taken (s : State) : State := { s with cmds := s.cmds.tail }

/-- An ILLEGAL word: the response and no other effect, in every mode and while halted (R80, R231). -/
def State.answerIllegal (s : State) : State := s.taken.refuse .illegal

/-- The word w as the host's next command (log 3). -/
def State.issue (s : State) (w : Word) : State := { s with cmds := w :: s.cmds }

/-- A table row's bits as a command word: the bits above nbits are 0 (log 10). -/
def tableWord (nbits w : Nat) : Word := BitVec.ofNat 32 (w % 2 ^ nbits)

end Sys2Proof.Machine
end

