-- ==== Sys2Proof/Machine/Step.lean ====
section
/-! DEFINITION. One step of the block: one whole command (20_memory.md R58), or an idle wait for the host (R21, R60). -/

namespace Sys2Proof.Machine

open Sys2Proof

/-- One step. With no command waiting the block is idle and its state does not change (R21, R60; log 3). -/
def step (s : State) : Host.Outcome State Fault Refusal :=
  match s.fetched with
  | .idle => .next s
  | .illegal => .next s.answerIllegal
  | .command i => exec i s.taken

/-- The host issues the word w as the next command, before any it has already queued (log 3, log 10). -/
def State.withFetchWord (s : State) (nbits w : Nat) : State := s.issue (tableWord nbits w)

end Sys2Proof.Machine
end

