-- ==== Sys2Proof/Machine/Assembler.lean ====
section
/-! DEFINITION. The assembler syntax of the commands (30_encoding.md R85). A line is a list of characters. -/

namespace Sys2Proof.Machine

open Sys2Proof

/-- What one line of assembly is: nothing (blank, or a comment only), one command, or a line the assembler refuses (R85). -/
inductive AsmLine where
  | nothing
  | command (i : Instr)
  | refused
deriving DecidableEq, Repr

/-- Space and tab separate words (log 17). -/
def asmBlank (c : Char) : Bool := c == ' ' || c == '\t'

/-- A line without its comment, which `;` begins (R85). -/
def asmStrip (line : List Char) : List Char := line.takeWhile (· != ';')

/-- Without blanks at either end. -/
def asmTrim (t : List Char) : List Char := ((t.dropWhile asmBlank).reverse.dropWhile asmBlank).reverse

/-- The operands, separated by commas (R85); no operands where there is no text. -/
def asmSplit (t : List Char) : List (List Char) :=
  if asmTrim t = [] then []
  else (t.foldr (fun c acc =>
    match acc with
    | [] => [[c]]
    | w :: ws => if c == ',' then [] :: w :: ws else (c :: w) :: ws) [[]]).map asmTrim

/-- The value of a digit in base 10 or 16 (R85). -/
def asmDigit (hex : Bool) (c : Char) : Option Nat :=
  let n := c.toNat
  if 48 ≤ n ∧ n ≤ 57 then some (n - 48)
  else if hex ∧ 97 ≤ n ∧ n ≤ 102 then some (n - 87)
  else if hex ∧ 65 ≤ n ∧ n ≤ 70 then some (n - 55)
  else none

/-- The value of a non-empty string of digits (R85). -/
def asmDigits (hex : Bool) : List Char → Option Nat
  | [] => none
  | c :: cs => (c :: cs).foldl (fun acc c => acc.bind fun a =>
      (asmDigit hex c).map fun d => a * (if hex then 16 else 10) + d) (some 0)

/-- "Numbers are decimal, or hexadecimal with `0x`" (R85). -/
def asmNat : List Char → Option Nat
  | '0' :: 'x' :: rest => asmDigits true rest
  | t => asmDigits false t

/-- "a signed operand may take a leading `-`" (R85). -/
def asmInt : List Char → Option Int
  | '-' :: rest => (asmNat rest).map fun n => -(n : Int)
  | t => (asmNat t).map fun n => (n : Int)

/-- p: 0 or 1 (R85). -/
def asmPack (t : List Char) : Option Pack :=
  (asmNat t).bind fun n => if n = 0 then some .p0 else if n = 1 then some .p1 else none

/-- A flag: 0 or 1 (R85). -/
def asmFlag (t : List Char) : Option Bool :=
  (asmNat t).bind fun n => if n = 0 then some false else if n = 1 then some true else none

/-- A byte: 0 to 255 (R85). -/
def asmByte (t : List Char) : Option Byte :=
  (asmNat t).bind fun n => if n ≤ 255 then some (BitVec.ofNat 8 n) else none

/-- j: 0 to 15 (R85). -/
def asmCell (t : List Char) : Option Nat := (asmNat t).bind fun n => if n ≤ 15 then some n else none

/-- code: -32768 to 32767 (R85). -/
def asmCode (t : List Char) : Option Int :=
  (asmInt t).bind fun x => if -32768 ≤ x ∧ x ≤ 32767 then some x else none

/-- tot: -524288 to 524287 (R85). -/
def asmTot (t : List Char) : Option Int :=
  (asmInt t).bind fun x => if -524288 ≤ x ∧ x ≤ 524287 then some x else none

/-- `XFER3 p, b0, b1, b2` (R85). -/
def asmXfer3 (p b0 b1 b2 : List Char) : Option Instr :=
  asmPack p >>= fun p => asmByte b0 >>= fun b0 => asmByte b1 >>= fun b1 => (asmByte b2).map (Instr.xfer3 p b0 b1)

/-- A mnemonic with its operand list (R85). -/
def asmCommand (mnemonic : List Char) (operands : List (List Char)) : Option Instr :=
  match mnemonic, operands with
  | ['X', 'F', 'E', 'R', '3'], [p, b0, b1, b2] => asmXfer3 p b0 b1 b2
  | ['S', 'E', 'T', 'E', 'N'], [p, v] => asmPack p >>= fun p => (asmFlag v).map (Instr.seten p)
  | ['A', 'C', 'Q'], [p] => (asmPack p).map Instr.acq
  | ['P', 'U', 'S', 'H'], [p, j, code] => asmPack p >>= fun p => asmCell j >>= fun j => (asmCode code).map (Instr.push p j)
  | ['P', 'U', 'S', 'H', 'T'], [p, tot] => asmPack p >>= fun p => (asmTot tot).map (Instr.pusht p)
  | ['A', 'V', 'G'], [p, j] => asmPack p >>= fun p => (asmCell j).map (Instr.avg p)
  | ['A', 'V', 'G', 'T'], [p] => (asmPack p).map Instr.avgt
  | ['O', 'V', 'Q'], [] => some .ovq
  | ['U', 'V', 'Q'], [] => some .uvq
  | ['B', 'A', 'L', 'Q'], [] => some .balq
  | ['O', 'T', 'Q'], [] => some .otq
  | ['S', 'T', 'A', 'T', 'Q'], [] => some .statq
  | ['F', 'L', 'T', 'Q'], [] => some .fltq
  | ['M', 'O', 'D', 'E', 'Q'], [] => some .modeq
  | ['D', 'I', 'A', 'G', 'Q'], [p] => (asmPack p).map Instr.diagq
  | ['M', 'A', 'S', 'K', 'Q'], [p] => (asmPack p).map Instr.maskq
  | ['B', 'A', 'L', 'C'], [p] => (asmPack p).map Instr.balc
  | ['B', 'A', 'L', 'W'], [p] => (asmPack p).map Instr.balw
  | ['P', 'O', 'L', 'L'], [ign, cp] => asmFlag ign >>= fun ign => (asmFlag cp).map (Instr.poll ign)
  | ['M', 'P', 'O', 'S', 'T'], [cp] => (asmFlag cp).map Instr.mpost
  | ['M', 'D', 'R', 'A', 'I', 'N'], [] => some .mdrain
  | ['C', 'Y', 'C', 'L', 'E'], [ign, cp] => asmFlag ign >>= fun ign => (asmFlag cp).map (Instr.cycle ign)
  | ['H', 'A', 'L', 'T'], [] => some .halt
  | _, _ => none

/-- One line of assembly: `MNEMONIC operand, operand, ...` (R85). -/
def assembleLine (line : List Char) : AsmLine :=
  let t := asmTrim (asmStrip line)
  if t = [] then .nothing
  else
    match asmCommand (t.takeWhile (fun c => !asmBlank c)) (asmSplit (t.dropWhile fun c => !asmBlank c)) with
    | some i => .command i
    | none => .refused

/-- The word a line assembles to (R85, R86). -/
def assembleWord (line : List Char) : Option Word :=
  match assembleLine line with
  | .command i => encode i
  | .nothing => none
  | .refused => none

/-! The other way: a command as a line of R85's form. -/

/-- A number in decimal (R85). -/
def textDecimal (n : Nat) : List Char := Nat.toDigits 10 n

/-- A number in hexadecimal with `0x` (R85). -/
def textHex (n : Nat) : List Char := '0' :: 'x' :: Nat.toDigits 16 n

/-- A signed operand, with a leading `-` where it is negative (R85). -/
def textInt (num : Nat → List Char) (x : Int) : List Char := if x < 0 then '-' :: num x.natAbs else num x.natAbs

/-- A pack as an operand (R85). -/
def textPack (num : Nat → List Char) : Pack → List Char
  | .p0 => num 0
  | .p1 => num 1

/-- A flag as an operand (R85). -/
def textFlag (num : Nat → List Char) (b : Bool) : List Char := num b.toNat

/-- `MNEMONIC operand, operand, ...` (R85). -/
def textLine (mnemonic : List Char) (operands : List (List Char)) : List Char :=
  mnemonic ++ (if operands = [] then [] else ' ' :: [',', ' '].intercalate operands)

/-- The line of a command with its numbers written by num, as R85 lists mnemonics and operands; none for a frame kind. -/
def asmText (num : Nat → List Char) : Instr → Option (List Char)
  | .xfer3 p b0 b1 b2 =>
    some (textLine ['X', 'F', 'E', 'R', '3'] [textPack num p, num b0.toNat, num b1.toNat, num b2.toNat])
  | .seten p v => some (textLine ['S', 'E', 'T', 'E', 'N'] [textPack num p, textFlag num v])
  | .acq p => some (textLine ['A', 'C', 'Q'] [textPack num p])
  | .push p j code => some (textLine ['P', 'U', 'S', 'H'] [textPack num p, num j, textInt num code])
  | .pusht p tot => some (textLine ['P', 'U', 'S', 'H', 'T'] [textPack num p, textInt num tot])
  | .avg p j => some (textLine ['A', 'V', 'G'] [textPack num p, num j])
  | .avgt p => some (textLine ['A', 'V', 'G', 'T'] [textPack num p])
  | .ovq => some (textLine ['O', 'V', 'Q'] [])
  | .uvq => some (textLine ['U', 'V', 'Q'] [])
  | .balq => some (textLine ['B', 'A', 'L', 'Q'] [])
  | .otq => some (textLine ['O', 'T', 'Q'] [])
  | .statq => some (textLine ['S', 'T', 'A', 'T', 'Q'] [])
  | .fltq => some (textLine ['F', 'L', 'T', 'Q'] [])
  | .diagq p => some (textLine ['D', 'I', 'A', 'G', 'Q'] [textPack num p])
  | .modeq => some (textLine ['M', 'O', 'D', 'E', 'Q'] [])
  | .maskq p => some (textLine ['M', 'A', 'S', 'K', 'Q'] [textPack num p])
  | .balc p => some (textLine ['B', 'A', 'L', 'C'] [textPack num p])
  | .balw p => some (textLine ['B', 'A', 'L', 'W'] [textPack num p])
  | .poll ign cp => some (textLine ['P', 'O', 'L', 'L'] [textFlag num ign, textFlag num cp])
  | .mpost cp => some (textLine ['M', 'P', 'O', 'S', 'T'] [textFlag num cp])
  | .mdrain => some (textLine ['M', 'D', 'R', 'A', 'I', 'N'] [])
  | .cycle ign cp => some (textLine ['C', 'Y', 'C', 'L', 'E'] [textFlag num ign, textFlag num cp])
  | .halt => some (textLine ['H', 'A', 'L', 'T'] [])
  | .afeSample _ => none
  | .afeSelect _ _ => none
  | .afeBalset _ => none
  | .afeSleep _ => none
  | .afeWake _ => none

end Sys2Proof.Machine
end

