-- ==== Sys2Proof/Machine/Wire.lean ====
section
/-! DEFINITION. Views of the trace: the pins before, during and after a frame (41_transport.md R100, R101, R107; 20_memory.md R54, R57) and the settle times of its delays (70_reset_and_hazards.md R279). -/

namespace Sys2Proof.Machine

open Sys2Proof

/-- The pins between two changes of a level (R101): the two chip-selects (true is high, inactive), the clock, and the two
data lines, with no level where the spec gives none (log 20). -/
structure PinSample where
  cs0 : Bool
  cs1 : Bool
  sclk : Bool
  mosi : Option Bool
  miso : Option Bool
deriving DecidableEq, Repr

/-- CS[p]'s level (R101). -/
def PinSample.cs (x : PinSample) : Pack → Bool
  | .p0 => x.cs0
  | .p1 => x.cs1

/-- The pins with no frame in progress: both chip-selects inactive, the clock at its idle level, which is SPI_MODE's
polarity (R101, R107; log 13). -/
def idlePins (c : Config) : PinSample := { cs0 := true, cs1 := true, sclk := c.spiPolarity, mosi := none, miso := none }

/-- CS[p] active (low), "the other pack's CS stays inactive" (R101). -/
def PinSample.select (x : PinSample) : Pack → PinSample
  | .p0 => { x with cs0 := false }
  | .p1 => { x with cs1 := false }

/-- Pack p selected, the clock at its idle level: before the first bit and after the last (R57). -/
def selectPins (c : Config) (p : Pack) : PinSample := (idlePins c).select p

/-- One SCLK cycle of a frame on pack p, in its two halves; the edge between them is the one SPI_MODE's phase samples on:
the leading edge for phase false, the trailing edge for phase true (R101; log 13). -/
def bitPins (c : Config) (p : Pack) (mosi miso : Bool) : List PinSample :=
  [{ selectPins c p with sclk := c.spiPolarity ^^ c.spiPhase, mosi := some mosi, miso := some miso },
    { selectPins c p with sclk := !(c.spiPolarity ^^ c.spiPhase), mosi := some mosi, miso := some miso }]

/-- The bits of a byte in wire order, bit 7 first (R54). -/
def msbFirst (b : Byte) : List Bool := (List.range 8).map fun k => b.getLsbD (7 - k)

/-- The byte that eight bits in wire order make (R54). -/
def byteOfBits (bits : List Bool) : Byte :=
  bits.foldl (fun b x => (b <<< 1) ||| (BitVec.ofBool x).setWidth 8) 0

/-- The received bytes of a response, in the order received (R73). -/
def unpackReply (rx : Word24) : AfeReply :=
  { r0 := rx.extractLsb 7 0, r1 := rx.extractLsb 15 8, r2 := rx.extractLsb 23 16 }

/-- The 24 pairs of a bit out and a bit in of FRAME(p, t0, t1, t2, rx): t0, t1, t2 out while r0, r1, r2 come in (R53). -/
def frameBits (t0 t1 t2 : Byte) (rx : Word24) : List (Bool × Bool) :=
  let r := unpackReply rx
  (msbFirst t0 ++ msbFirst t1 ++ msbFirst t2).zip (msbFirst r.r0 ++ msbFirst r.r1 ++ msbFirst r.r2)

/-- The pins of FRAME(p, t0, t1, t2, rx): CS[p] goes active, 24 SCLK cycles follow, CS[p] goes inactive (R57, R101). -/
def framePins (c : Config) (p : Pack) (t0 t1 t2 : Byte) (rx : Word24) : List PinSample :=
  selectPins c p :: (frameBits t0 t1 t2 rx).flatMap (fun b => bitPins c p b.1 b.2) ++ [selectPins c p, idlePins c]

/-- The pins an event moves: those of a frame, none for any other event (R101). -/
def Event.pins (c : Config) : Event → List PinSample
  | .frame p t0 t1 t2 rx => framePins c p t0 t1 t2 rx
  | .en _ _ => []
  | .delay _ => []
  | .adc _ _ => []
  | .radio _ => []
  | .can _ _ => []
  | .telemetry => []
  | .diag _ => []

/-- The pins over a trace: idle before its first frame, then each frame from its select to its release (R57, R107). -/
def pinTrace (c : Config) (es : List Event) : List PinSample := idlePins c :: es.flatMap (Event.pins c)

/-- The pins since reset (R37, R101). -/
def State.pins (s : State) : List PinSample := pinTrace s.cfg s.trace

/-- The platform identifier of the chip-select a frame asserts, CS_ID[p] (R100). -/
def Event.chipSelect (c : Config) : Event → Option Nat
  | .frame p _ _ _ _ => some (c.csId p)
  | .en _ _ => none
  | .delay _ => none
  | .adc _ _ => none
  | .radio _ => none
  | .can _ _ => none
  | .telemetry => none
  | .diag _ => none

/-- The settle time of an event in microseconds: T_SAMPLE_SETTLE or T_MUX_SETTLE for a delay (R279; log 21). -/
def Event.settleUs (c : Config) : Event → Nat
  | .delay .sampleSettle => c.sampleSettleUs
  | .delay .muxSettle => c.muxSettleUs
  | .frame _ _ _ _ _ => 0
  | .en _ _ => 0
  | .adc _ _ => 0
  | .radio _ => 0
  | .can _ _ => 0
  | .telemetry => 0
  | .diag _ => 0

/-- The sum of the settle times of a list of events, in microseconds (R279; log 21). -/
def settleTotal (c : Config) (es : List Event) : Nat := (es.map (Event.settleUs c)).sum

end Sys2Proof.Machine
end

