-- ==== Sys2Proof/Safety.lean ====
section
/-! DEFINITION. The terms the claims use: the ring-buffer window, the invariant of the block, what a transition leaves, what a step appended. -/

namespace Sys2Proof.Machine

open Sys2Proof

/-! Ring buffers (R26). -/

/-- The valid samples of a buffer, oldest first (R26 (ii), (iii)). -/
def Ring.window (b : Ring) : List Int :=
  if b.count < cap then b.slots.take b.count else b.slots.drop b.head ++ b.slots.take b.head

/-- The invariant of R26 for a buffer of values in [lo, hi]: CAP slots, (i) the ranges of count and head, (ii) head = count
until the buffer is full, (iv) the sum of the valid samples. -/
abbrev Ring.wf (lo hi : Int) (b : Ring) : Prop :=
  b.slots.length = cap ∧ b.count ≤ cap ∧ b.head < cap ∧ (b.count < cap → b.head = b.count) ∧
    b.sum = b.window.sum ∧ ∀ x ∈ b.slots, lo ≤ x ∧ x ≤ hi

/-- A cell buffer's invariant: 16-bit codes (R24, R26). -/
abbrev Ring.cellWf (b : Ring) : Prop := b.wf (-32768) 32767

/-- A pack-total buffer's invariant: 20-bit codes (R25, R26). -/
abbrev Ring.totWf (b : Ring) : Prop := b.wf (-524288) 524287

/-- The last CAP samples of a history, oldest first (R146). -/
def lastSamples (xs : List Int) : List Int := xs.drop (xs.length - cap)

/-! The invariant of the whole block. -/

/-- A pack holds NUM_CELLS sound cell buffers and a sound total buffer, and no mask bit of a cell that does not exist (R23,
R24, R25, R26, R38). -/
abbrev PackState.wf (c : Config) (q : PackState) : Prop :=
  q.buf.length = c.numCells ∧ (∀ b ∈ q.buf, b.cellWf) ∧ q.tot.totWf ∧
    ∀ j, j < 16 → c.numCells ≤ j → q.mask.getLsbD (15 - j) = false

/-- The invariant every command keeps: legal parameters (R7), sound packs, the debounce counter below IGN_DEBOUNCE_N (R30),
zero masks in DRIVING (R275). -/
abbrev State.inv (s : State) : Prop :=
  s.cfg.legal ∧ s.pack0.wf s.cfg ∧ s.pack1.wf s.cfg ∧ s.ignCnt < s.cfg.ignDebounceN ∧
    (s.mode = .driving → s.pack0.mask = 0 ∧ s.pack1.mask = 0)

/-! Voltages, as the rules write them, in exact rationals. -/

/-- `b.count > 0 and b.sum * SCALE >= V_UP * b.count` (R160, R180). -/
def Ring.isOver (c : Config) (b : Ring) : Prop := 0 < b.count ∧ vUp * (b.count : ℚ) ≤ (b.sum : ℚ) * c.scale

/-- `b.count > 0 and b.sum * SCALE < V_LO * b.count` (R161). -/
def Ring.isUnder (c : Config) (b : Ring) : Prop := 0 < b.count ∧ (b.sum : ℚ) * c.scale < vLo * (b.count : ℚ)

/-! What the next frames will be answered with. -/

/-- The response of the k-th frame from now, when no ADC read comes between (R105). -/
def State.rxAt (s : State) (k : Nat) : Word24 :=
  packReply ((s.afeIn[k]?).getD (Config.afeAnswer (s.draws + k)))

/-! The transition table (R193) and what its two procedures leave (R194, R195), field by field. -/

/-- What one evaluation of the transition function does. -/
inductive TransitionEffect where
  | stay
  | wakeTo (m : Mode)
  | sleep
deriving DecidableEq, Repr

/-- The table of R193, with the priority of R198 and the no-ops of R196. -/
def transitionEffect (m : Mode) (ign cp : Bool) : TransitionEffect :=
  match m, ign, cp with
  | .standby, _, true => .wakeTo .charging
  | .standby, true, false => .wakeTo .driving
  | .standby, false, false => .stay
  | .driving, false, _ => .sleep
  | .driving, true, _ => .stay
  | .charging, _, false => .sleep
  | .charging, _, true => .stay

/-- The state after a transition to m through WAKE (R194). -/
def State.afterWake (s : State) (m : Mode) : State :=
  { s with
    mode := m
    pack0 := { s.pack0 with mask := 0, enable := true }
    pack1 := { s.pack1 with mask := 0, enable := true }
    radioEn := true
    trace := s.trace ++ [.en .p0 true, .frame .p0 0x00 0x00 s.cfg.ctrlWake (s.rxAt 0), .en .p1 true,
      .frame .p1 0x00 0x00 s.cfg.ctrlWake (s.rxAt 1), .radio true]
    afeIn := s.afeIn.drop 2
    draws := s.draws + 2 }

/-- The state after a transition to STANDBY through SLEEP (R195). -/
def State.afterSleep (s : State) : State :=
  { s with
    mode := .standby
    pack0 := { s.pack0 with enable := false }
    pack1 := { s.pack1 with enable := false }
    radioEn := false
    trace := s.trace ++ [.frame .p0 0x00 0x00 s.cfg.ctrlSleep (s.rxAt 0), .en .p0 false,
      .frame .p1 0x00 0x00 s.cfg.ctrlSleep (s.rxAt 1), .en .p1 false, .radio false]
    afeIn := s.afeIn.drop 2
    draws := s.draws + 2 }

/-- The state after one evaluation of the transition function on the levels ign and cp (R193 to R196). -/
def State.afterTransition (s : State) (ign cp : Bool) : State :=
  match transitionEffect s.mode ign cp with
  | .stay => s
  | .wakeTo m => s.afterWake m
  | .sleep => s.afterSleep

/-- The mode an effect leaves, from mode m (R193 to R196). -/
def TransitionEffect.modeAfter (m : Mode) : TransitionEffect → Mode
  | .stay => m
  | .wakeTo m' => m'
  | .sleep => .standby

/-- The events of an effect, its two frames answered x0 and x1 (R194, R195). -/
def TransitionEffect.events (c : Config) (x0 x1 : Word24) : TransitionEffect → List Event
  | .stay => []
  | .wakeTo _ => [.en .p0 true, .frame .p0 0x00 0x00 c.ctrlWake x0, .en .p1 true, .frame .p1 0x00 0x00 c.ctrlWake x1, .radio true]
  | .sleep => [.frame .p0 0x00 0x00 c.ctrlSleep x0, .en .p0 false, .frame .p1 0x00 0x00 c.ctrlSleep x1, .en .p1 false, .radio false]

/-- What draining the mailbox does: nothing where it is empty, else one evaluation on its level (R214, R221). -/
def State.drainEffect (s : State) : TransitionEffect :=
  match s.mbox with
  | none => .stay
  | some v => transitionEffect s.mode s.ignDb v

/-! What a command appended to the trace. -/

/-- The events of t's trace beyond those of s (R37). -/
def newEvents (s t : State) : List Event := t.trace.drop s.trace.length

/-- The ADC codes among events, in order. -/
def adcCodes (es : List Event) : List Int :=
  es.filterMap fun e =>
    match e with
    | .adc _ c => some c
    | .frame _ _ _ _ _ => none
    | .en _ _ => none
    | .delay _ => none
    | .radio _ => none
    | .can _ _ => none
    | .telemetry => none
    | .diag _ => none

/-- The frame responses among events, in order. -/
def frameResponses (es : List Event) : List Word24 :=
  es.filterMap fun e =>
    match e with
    | .frame _ _ _ _ rx => some rx
    | .adc _ _ => none
    | .en _ _ => none
    | .delay _ => none
    | .radio _ => none
    | .can _ _ => none
    | .telemetry => none
    | .diag _ => none

/-- The events of one ACQ of pack p with mask m, before any DIAG (R121): the sample frame answered `first`, for each cell
from the highest down a select frame and a conversion answered as `reads` lists them, the restore frame answered `last`. -/
def acqEvents (c : Config) (p : Pack) (m : Mask) (first : Word24) (reads : List (Word24 × Int)) (last : Word24) :
    List Event :=
  [.frame p (hiByte m) (loByte m) c.ctrlSample first, .delay .sampleSettle] ++
    (((List.range c.numCells).reverse.zip reads).flatMap fun x =>
      [.frame p (hiByte m) (loByte m) (c.selectByte x.1) x.2.1, .delay .muxSettle, .adc (c.adcChannel p) x.2.2]) ++
    [.frame p (hiByte m) (loByte m) c.ctrlSample last]

/-! The pins over a trace (R57, R101). -/

/-- How often f goes from true to false along a list of pin samples. -/
def falls (f : PinSample → Bool) : List PinSample → Nat
  | [] => 0
  | [_] => 0
  | x :: y :: rest => (if f x && !f y then 1 else 0) + falls f (y :: rest)

/-- The event is a frame on pack p. -/
def Event.isFrameOn (p : Pack) : Event → Bool
  | .frame q _ _ _ _ => p == q
  | .en _ _ => false
  | .delay _ => false
  | .adc _ _ => false
  | .radio _ => false
  | .can _ _ => false
  | .telemetry => false
  | .diag _ => false

/-! The format a word's opcode and sub-function call for (R71, R78, R79). -/

/-- The format of a query by its sub-function (R79): DIAGQ and MASKQ take p; 9 to 15 are reserved. -/
def queryFormat (sub : Nat) : Option Format :=
  if sub = 6 ∨ sub = 8 then some .fqp else if sub ≤ 7 then some .fq else none

/-- The format of a word by its opcode (R78); none for opcode 0x0. -/
def wordFormat (w : Word) : Option Format :=
  match (w.extractLsb 31 28).toNat with
  | 1 => some .fx
  | 2 => some .fpv
  | 3 => some .fp
  | 4 => some .fpjc
  | 5 => some .fpt
  | 6 => some .fpj
  | 7 => some .fp
  | 8 => queryFormat (w.extractLsb 3 0).toNat
  | 9 => some .fp
  | 10 => some .fp
  | 11 => some .fic
  | 12 => some .fc
  | 13 => some .fn
  | 14 => some .fic
  | 15 => some .fn
  | _ => none

/-- Some reserved bit of the word's format is set (R70, R80). -/
def reservedBitSet (w : Word) : Prop := ∃ f, wordFormat w = some f ∧ ∃ r ∈ f.reserved, w.extractLsb r.1 r.2 ≠ 0

/-! Which commands the halt refuses (R233). -/

/-- The commands refused while halted: opcodes 0x1 to 0x5 and 0x9 to 0xE. -/
def refusedWhileHalted : Instr → Bool
  | .xfer3 _ _ _ _ => true
  | .seten _ _ => true
  | .acq _ => true
  | .push _ _ _ => true
  | .pusht _ _ => true
  | .balc _ => true
  | .balw _ => true
  | .poll _ _ => true
  | .mpost _ => true
  | .mdrain => true
  | .cycle _ _ => true
  | .avg _ _ => false
  | .avgt _ => false
  | .ovq => false
  | .uvq => false
  | .balq => false
  | .otq => false
  | .statq => false
  | .fltq => false
  | .diagq _ => false
  | .modeq => false
  | .maskq _ => false
  | .halt => false
  | .afeSample _ => false
  | .afeSelect _ _ => false
  | .afeBalset _ => false
  | .afeSleep _ => false
  | .afeWake _ => false

/-- The queries of opcode 0x8 (R79). -/
def isQuery : Instr → Bool
  | .ovq => true
  | .uvq => true
  | .balq => true
  | .otq => true
  | .statq => true
  | .fltq => true
  | .diagq _ => true
  | .modeq => true
  | .maskq _ => true
  | .xfer3 _ _ _ _ => false
  | .seten _ _ => false
  | .acq _ => false
  | .push _ _ _ => false
  | .pusht _ _ => false
  | .avg _ _ => false
  | .avgt _ => false
  | .balc _ => false
  | .balw _ => false
  | .poll _ _ => false
  | .mpost _ => false
  | .mdrain => false
  | .cycle _ _ => false
  | .halt => false
  | .afeSample _ => false
  | .afeSelect _ _ => false
  | .afeBalset _ => false
  | .afeSleep _ => false
  | .afeWake _ => false

end Sys2Proof.Machine
end

