-- ==== Sys2Proof/Certificates/Slice0/Obligations.lean ====
section
/-! DEFINITION. The statements for the provers. Each says what the block does by the rules of spec/; log n names an entry of notes/assumptions. -/

open Sys2Proof
open Sys2Proof.Machine

/-- Decoding the word of any well-formed command gives the command back (30_encoding.md sections 2 (command word, formats, operand assembly)). -/
def Obligations.CommandsDecodeBack : Prop :=
  ∀ i : Instr, i.wellFormed = true → i.isCommand = true → ∃ w, encode i = some w ∧ decode w = .ok i

/-- A decoded command is well-formed and encodes back to the very word (30_encoding.md section 2 (command word, formats, operand assembly)). -/
def Obligations.DecodedWordsEncodeBack : Prop :=
  ∀ (w : Word) (i : Instr), decode w = .ok i → i.wellFormed = true ∧ i.isCommand = true ∧ encode i = some w

/-- Every word decodes to its unique table row, or matches none and is ILLEGAL with no other effect (R80). -/
def Obligations.EveryWordHasItsRowOrIsIllegal : Prop :=
  ∀ w : Word,
    ((∃ i, decode w = .ok i ∧
        ∃ r ∈ commandTable, r.1 = i.mnemonic ∧ w &&& r.2.2 = r.2.1 ∧
          ∀ r' ∈ commandTable, w &&& r'.2.2 = r'.2.1 → r' = r) ∨
      ((∀ r ∈ commandTable, w &&& r.2.2 ≠ r.2.1) ∧
        ∀ (s : State) (rest : List Word), s.cmds = w :: rest →
          step s = .next { s with cmds := rest, resp := some { code := .illegal, value := 0 } })) ∧
    ((∀ r ∈ commandTable, w &&& r.2.2 ≠ r.2.1) ↔
      w.extractLsb 31 28 = 0 ∨ (w.extractLsb 31 28 = 8 ∧ 9 ≤ (w.extractLsb 3 0).toNat) ∨ reservedBitSet w)

/-- A step runs the command that the next word decodes to, or waits idle (10_state.md section 1 (commands one at a time), 20_memory.md section 3 (atomicity of a command)). Rests on the model's choice in log 3. -/
def Obligations.StepRunsTheDecodedCommand : Prop :=
  ∀ s : State, (s.cmds = [] → step s = .next s) ∧
    ∀ (w : Word) (rest : List Word) (i : Instr), s.cmds = w :: rest → decode w = .ok i →
      step s = exec i { s with cmds := rest }

/-- The worked encodings encode and decode as the spec writes them (R86). -/
def Obligations.WorkedEncodingsHold : Prop :=
  ∀ x ∈ [(Instr.push .p0 9 2075, 0x4090081B#32), (.xfer3 .p1 0x12 0x34 0x56, 0x11563412#32), (.diagq .p1, 0x81000006#32),
      (.poll true false, 0xB0000002#32), (.pusht .p0 (-1), 0x500FFFFF#32), (.avg .p1 15, 0x61F00000#32)],
    encode x.1 = some x.2 ∧ decode x.2 = .ok x.1

/-- Where the control bytes differ, every frame kind is read back from its 24 bits (30_encoding.md section 1 (frame kinds, control-byte parameters)). -/
def Obligations.FrameKindsReadBack : Prop :=
  ∀ (c : Config) (p : Pack) (m : Mask) (i : Instr) (f : Word24),
    ([c.ctrlSample, c.ctrlBalset, c.ctrlSleep, c.ctrlWake] ++ (List.range c.numCells).map c.selectByte).Nodup →
    (i = .afeSample p ∨ (∃ j, j < c.numCells ∧ i = .afeSelect p j) ∨ i = .afeBalset p ∨ i = .afeSleep p ∨
      i = .afeWake p) →
    encodeFrame c m i = some f → decodeFrame c p f = some i

/-- The assembler takes every command's line, and every line it takes is a command with its word (30_encoding.md section 2 (assembler syntax)). -/
def Obligations.AssembledLinesAreCommandsWithWords : Prop :=
  (∀ i : Instr, i.wellFormed = true → i.isCommand = true →
    ∀ num, num = textDecimal ∨ num = textHex → ∃ line, asmText num i = some line ∧
      assembleLine line = .command i ∧ ∀ comment, assembleLine (line ++ ';' :: comment) = .command i) ∧
  ∀ (line : List Char) (i : Instr), assembleLine line = .command i →
    i.wellFormed = true ∧ i.isCommand = true ∧ ∃ w, assembleWord line = some w ∧ decode w = .ok i

/-- Reset puts every piece of state at its reset value, and the block is then idle (R260). -/
def Obligations.ResetGivesTheResetState : Prop :=
  ∀ c : Config,
    (State.resetWith c).mode = .standby ∧
    (∀ p, (State.resetWith c).mask p = 0 ∧ ((State.resetWith c).pack p).enable = false ∧
      ((State.resetWith c).pack p).diag = false ∧
      ((State.resetWith c).tot p).head = 0 ∧ ((State.resetWith c).tot p).count = 0 ∧ ((State.resetWith c).tot p).sum = 0 ∧
      ((State.resetWith c).pack p).buf.length = c.numCells ∧
      ∀ j, j < c.numCells → ((State.resetWith c).cell p j).head = 0 ∧ ((State.resetWith c).cell p j).count = 0 ∧
        ((State.resetWith c).cell p j).sum = 0) ∧
    (State.resetWith c).radioEn = false ∧ (State.resetWith c).ignDb = false ∧ (State.resetWith c).ignCnt = 0 ∧
    (State.resetWith c).mbox = none ∧ (State.resetWith c).halted = false ∧ (State.resetWith c).trace = [] ∧
    (State.resetWith c).cfg = c ∧
    (State.resetWith c).overVoltage = false ∧ (State.resetWith c).underVoltage = false ∧
    (State.resetWith c).balancing = false ∧ (State.resetWith c).overTemperature = false ∧
    (State.resetWith c).statusByte = 0x00 ∧ (State.resetWith c).faultByte = 0x00 ∧
    step (State.resetWith c) = .next (State.resetWith c)

/-- No step clears the halt; reset clears it and begins an empty trace (10_state.md section 2 (halted), 60_exceptions.md section 3 (trap return and nesting)). Rests on the model's choice in log 19. -/
def Obligations.OnlyResetClearsTheHalt : Prop :=
  (∀ s t : State, s.halted = true → step s = .next t → t.halted = true) ∧
  ∀ s : State, s.applyReset.halted = false ∧ s.applyReset.trace = [] ∧
    s.applyReset = { State.resetWith s.cfg with cmds := s.cmds, afeIn := s.afeIn, adcIn := s.adcIn, draws := s.draws }

/-- The three received bytes are packed little-endian into the response (R73). -/
def Obligations.ResponseIsPackedLittleEndian : Prop :=
  ∀ r : AfeReply,
    packReply r = r.r0.setWidth 24 ||| (r.r1.setWidth 24 <<< 8) ||| (r.r2.setWidth 24 <<< 16) ∧
    (packReply r).extractLsb 7 0 = r.r0 ∧ (packReply r).extractLsb 15 8 = r.r1 ∧
    (packReply r).extractLsb 23 16 = r.r2 ∧ (lowByteSet (packReply r) = true ↔ r.r0 ≠ 0)

/-- XFER3 sends one frame with its three bytes and answers with the response (41_transport.md section 2 (XFER3)). -/
def Obligations.Xfer3SendsOneRawFrame : Prop :=
  ∀ (p : Pack) (b0 b1 b2 : Byte) (s : State), s.halted = false →
    exec (.xfer3 p b0 b1 b2) s = .next { s with
      trace := s.trace ++ [.frame p b0 b1 b2 s.nextRx]
      resp := some { code := .ok, value := s.nextRx.setWidth 32 }
      afeIn := s.afeIn.tail
      draws := s.draws + 1 }

/-- Every frame of every instruction may be answered with any of the 2^24 values, independently of the others (41_transport.md section 1 (response content)). -/
def Obligations.AnyFrameResponseIsPossible : Prop :=
  (∀ (i : Instr) (s : State), ∃ n : Nat, ∀ vs : List Word24, vs.length = n →
    ∃ (rs : List AfeReply) (t : State), exec i { s with afeIn := rs } = .next t ∧ frameResponses (newEvents s t) = vs) ∧
  ∀ (v : Word24) (p : Pack) (b0 b1 b2 : Byte) (s : State), s.halted = false →
    ∃ (r : AfeReply) (t : State), exec (.xfer3 p b0 b1 b2) { s with afeIn := r :: s.afeIn } = .next t ∧
      t.trace = s.trace ++ [.frame p b0 b1 b2 v] ∧ t.resp = some { code := .ok, value := v.setWidth 32 }

/-- SETEN drives one pack's enable line and appends one EN event (41_transport.md section 2 (SETEN)). -/
def Obligations.SetenDrivesTheEnableLine : Prop :=
  ∀ (p : Pack) (v : Bool) (s : State), s.halted = false →
    exec (.seten p v) s = .next { s.setPack p { s.pack p with enable := v } with
      trace := s.trace ++ [.en p v]
      resp := some { code := .ok, value := 0 } }

/-- Each AFE frame kind is one frame with the bytes of its row (30_encoding.md section 1 (frame format, frame kinds)). Rests on the model's choice in log 9. -/
def Obligations.AfeFrameKindsSendTheirFrame : Prop :=
  ∀ (p : Pack) (j : Nat) (s : State),
    (s.halted = false →
      exec (.afeSample p) s = .next { s with
        trace := s.trace ++ [.frame p ((s.mask p).extractLsb 15 8) ((s.mask p).extractLsb 7 0) s.cfg.ctrlSample s.nextRx]
        afeIn := s.afeIn.tail
        draws := s.draws + 1 } ∧
      exec (.afeSelect p j) s = .next { s with
        trace := s.trace ++ [.frame p ((s.mask p).extractLsb 15 8) ((s.mask p).extractLsb 7 0) (s.cfg.selectByte j) s.nextRx]
        afeIn := s.afeIn.tail
        draws := s.draws + 1 } ∧
      exec (.afeBalset p) s = .next { s with
        trace := s.trace ++ [.frame p ((s.mask p).extractLsb 15 8) ((s.mask p).extractLsb 7 0) s.cfg.ctrlBalset s.nextRx]
        afeIn := s.afeIn.tail
        draws := s.draws + 1 } ∧
      exec (.afeSleep p) s = .next { s with
        trace := s.trace ++ [.frame p 0x00 0x00 s.cfg.ctrlSleep s.nextRx]
        afeIn := s.afeIn.tail
        draws := s.draws + 1 } ∧
      exec (.afeWake p) s = .next { s with
        trace := s.trace ++ [.frame p 0x00 0x00 s.cfg.ctrlWake s.nextRx]
        afeIn := s.afeIn.tail
        draws := s.draws + 1 }) ∧
    (s.halted = true → exec (.afeSample p) s = .next s ∧ exec (.afeSelect p j) s = .next s ∧
      exec (.afeBalset p) s = .next s ∧ exec (.afeSleep p) s = .next s ∧ exec (.afeWake p) s = .next s)

/-- A frame is one select of its pack, 24 clock cycles within it, bit 7 of each byte first, and a release (20_memory.md section 2 (byte order and bit order), 20_memory.md section 3 (atomicity of a frame), 41_transport.md section 1 (pin-level shape, one frame at a time)). Rests on the model's choice in log 13, log 20. -/
def Obligations.FramePinsCarryEveryBit : Prop :=
  ∀ (c : Config),
    (∀ (p : Pack) (t0 t1 t2 : Byte) (rx : Word24),
      (framePins c p t0 t1 t2 rx).length = 51 ∧
      (framePins c p t0 t1 t2 rx)[0]? = some { cs0 := p != .p0, cs1 := p != .p1, sclk := c.spiPolarity, mosi := none, miso := none } ∧
      (∀ k, k < 24 → ∀ half : Bool,
        (framePins c p t0 t1 t2 rx)[1 + 2 * k + half.toNat]? = some {
          cs0 := p != .p0
          cs1 := p != .p1
          sclk := c.spiPolarity ^^ (c.spiPhase ^^ half)
          mosi := some (([t0, t1, t2].getD (k / 8) 0).getLsbD (7 - k % 8))
          miso := some (rx.getLsbD (8 * (k / 8) + (7 - k % 8))) }) ∧
      (framePins c p t0 t1 t2 rx)[49]? = some { cs0 := p != .p0, cs1 := p != .p1, sclk := c.spiPolarity, mosi := none, miso := none } ∧
      (framePins c p t0 t1 t2 rx)[50]? = some { cs0 := true, cs1 := true, sclk := c.spiPolarity, mosi := none, miso := none }) ∧
    ∀ es : List Event,
      (pinTrace c es).head? = some (idlePins c) ∧ (pinTrace c es).getLast? = some (idlePins c) ∧
      (idlePins c).cs0 = true ∧ (idlePins c).cs1 = true ∧
      (∀ x ∈ pinTrace c es, x.cs0 = true ∨ x.cs1 = true) ∧
      (∀ p, falls (fun x => x.cs p) (pinTrace c es) = (es.filter (Event.isFrameOn p)).length) ∧
      falls (fun x => x.sclk == c.spiPolarity) (pinTrace c es) =
        24 * ((es.filter (Event.isFrameOn .p0)).length + (es.filter (Event.isFrameOn .p1)).length)

/-- The trace of one successful ACQ is exactly the listed events (R121). -/
def Obligations.AcqTraceIsExact : Prop :=
  ∀ (p : Pack) (s : State), s.halted = false → s.mode ≠ .standby →
    ∃ (t : State) (first last : Word24) (reads : List (Word24 × Int)),
      exec (.acq p) s = .next t ∧ reads.length = s.cfg.numCells ∧
      t.trace = s.trace ++ acqEvents s.cfg p (s.mask p) first reads last ++
        (if (t.pack p).diag then [.diag p] else []) ∧
      (acqEvents s.cfg p (s.mask p) first reads last).length = 3 * s.cfg.numCells + 3 ∧
      ∀ e ∈ newEvents s t, (∀ q a b d rx, e = .frame q a b d rx → q = p) ∧ (∀ q v, e ≠ .en q v) ∧ ∀ v, e ≠ .radio v

/-- ACQ pushes each code it read, their sum, and the diagnostic, and writes nothing else (42_acquisition.md (ACQ pseudocode; select, settle, read and push; pack total; diagnostic; what ACQ writes)). -/
def Obligations.AcqPushesWhatItReads : Prop :=
  ∀ (p : Pack) (s : State), s.halted = false → s.mode ≠ .standby → (s.pack p).buf.length = s.cfg.numCells →
    ∃ t : State, exec (.acq p) s = .next t ∧
      (adcCodes (newEvents s t)).length = s.cfg.numCells ∧
      (t.pack p).buf.length = s.cfg.numCells ∧
      (∀ j, j < s.cfg.numCells →
        t.cell p j = (s.cell p j).push ((adcCodes (newEvents s t)).getD (s.cfg.numCells - 1 - j) 0)) ∧
      t.tot p = (if s.cfg.totalSource = .cellSum then (s.tot p).push (adcCodes (newEvents s t)).sum else s.tot p) ∧
      (t.pack p).diag = (frameResponses (newEvents s t)).dropLast.any lowByteSet ∧
      t = { s.setPack p { s.pack p with buf := (t.pack p).buf, tot := t.tot p, diag := (t.pack p).diag } with
        trace := t.trace
        resp := some { code := .ok, value := 0 }
        afeIn := t.afeIn
        adcIn := t.adcIn
        draws := t.draws }

/-- ACQ is refused with BADMODE in STANDBY and always runs in DRIVING and CHARGING (R129). -/
def Obligations.AcqRunsOutsideStandbyOnly : Prop :=
  ∀ (p : Pack) (s : State), s.halted = false →
    (s.mode = .standby → exec (.acq p) s = .next { s with resp := some { code := .badMode, value := 0 } }) ∧
    (s.mode = .driving ∨ s.mode = .charging →
      ∃ t, exec (.acq p) s = .next t ∧ t.resp = some { code := .ok, value := 0 })

/-- Every conversion a step makes is on a pack's channel and within the ADC's range (00_scope.md section 5 (external primitives, AdcRead)). -/
def Obligations.AdcCodesStayInRange : Prop :=
  ∀ s t : State, s.cfg.adcMin ≤ s.cfg.adcMax → step s = .next t → ∀ ch c, Event.adc ch c ∈ newEvents s t →
    s.cfg.adcMin ≤ c ∧ c ≤ s.cfg.adcMax ∧ ∃ p, ch = s.cfg.adcChannel p

/-- The delays of one ACQ add up to T_SAMPLE_SETTLE + NUM_CELLS * T_MUX_SETTLE (70_reset_and_hazards.md section 4 (timing figures)). Rests on the model's choice in log 21. -/
def Obligations.AcqSettleTimesAddUp : Prop :=
  ∀ (p : Pack) (s : State), s.halted = false → s.mode ≠ .standby →
    ∃ t, exec (.acq p) s = .next t ∧
      settleTotal s.cfg (newEvents s t) = s.cfg.sampleSettleUs + s.cfg.numCells * s.cfg.muxSettleUs

/-- PUSH pushes its code into one cell buffer and changes nothing else (43_filter.md section 2 (PUSH)). -/
def Obligations.PushCommandPushesTheCode : Prop :=
  ∀ (p : Pack) (j : Nat) (code : Int) (s : State), s.halted = false → j < s.cfg.numCells →
    exec (.push p j code) s = .next { s.setPack p { s.pack p with buf := (s.pack p).buf.set j ((s.cell p j).push code) } with
      resp := some { code := .ok, value := 0 } }

/-- PUSHT pushes its total into the pack's total buffer and changes nothing else (43_filter.md section 2 (PUSHT)). -/
def Obligations.PushtCommandPushesTheTotal : Prop :=
  ∀ (p : Pack) (x : Int) (s : State), s.halted = false →
    exec (.pusht p x) s = .next { s.setPack p { s.pack p with tot := (s.tot p).push x } with
      resp := some { code := .ok, value := 0 } }

/-- A push appends to the window, evicting the oldest sample when it is full, and keeps the invariant (43_filter.md section 1 (push), 10_state.md section 2 (ring-buffer invariant)). -/
def Obligations.PushSlidesTheWindow : Prop :=
  ∀ (lo hi : Int) (b : Ring) (x : Int), b.wf lo hi → lo ≤ x → x ≤ hi →
    (b.push x).wf lo hi ∧
    (b.push x).window = (if b.count < 20 then b.window ++ [x] else b.window.tail ++ [x]) ∧
    (b.push x).count = min (b.count + 1) 20 ∧ (b.push x).head = (b.head + 1) % 20

/-- After n pushes the mean is the arithmetic mean of the most recent min(n, 20) samples (R146). -/
def Obligations.MeanIsOverTheLastTwentySamples : Prop :=
  ∀ (c : Config) (xs : List Int),
    (xs.foldl Ring.push Ring.empty).window = lastSamples xs ∧
    (xs.foldl Ring.push Ring.empty).sum = (lastSamples xs).sum ∧
    (xs.foldl Ring.push Ring.empty).count = min xs.length 20 ∧
    (xs.foldl Ring.push Ring.empty).meanVolts c =
      (if xs = [] then none else some (((lastSamples xs).sum : ℚ) / ((lastSamples xs).length : ℚ) * c.scale))

/-- Two buffers with the same valid samples answer alike for ever, whatever their unwritten slots hold (10_state.md section 2 (ring-buffer invariant), 92_eei_decisions.md D37). -/
def Obligations.UnwrittenSlotsAreNeverSeen : Prop :=
  ∀ (lo hi : Int) (a b : Ring) (xs : List Int), a.wf lo hi → b.wf lo hi → a.window = b.window →
    (∀ x ∈ xs, lo ≤ x ∧ x ≤ hi) →
    (xs.foldl Ring.push a).window = (xs.foldl Ring.push b).window ∧
    (xs.foldl Ring.push a).count = (xs.foldl Ring.push b).count ∧
    (xs.foldl Ring.push a).sum = (xs.foldl Ring.push b).sum

/-- Sums, counts and heads fit the widths the spec gives them (43_filter.md section 3 (arithmetic width)). -/
def Obligations.SumsFitTheirWidths : Prop :=
  ∀ b : Ring,
    (b.cellWf → -655360 ≤ b.sum ∧ b.sum ≤ 655340 ∧ (BitVec.ofInt 21 b.sum).toInt = b.sum ∧ b.count < 32 ∧ b.head < 32) ∧
    (b.totWf → -10485760 ≤ b.sum ∧ b.sum ≤ 10485740 ∧ (BitVec.ofInt 25 b.sum).toInt = b.sum ∧ b.count < 32 ∧ b.head < 32)

/-- AVG answers a cell's count and sum, from which its mean in volts is read (43_filter.md section 2 (AVG), 43_filter.md section 3 (volts), 30_encoding.md section 2 (response encoding)). -/
def Obligations.AvgAnswersCountAndSum : Prop :=
  ∀ (p : Pack) (j : Nat) (s : State), j < s.cfg.numCells → (s.cell p j).cellWf →
    ∃ v : Word, exec (.avg p j) s = .next { s with resp := some { code := .ok, value := v } } ∧
      (v.extractLsb 31 27).toNat = (s.cell p j).count ∧ v.extractLsb 26 25 = 0 ∧
      (v.extractLsb 24 0).toInt = (s.cell p j).sum ∧
      s.cellVoltage p j = (if (s.cell p j).count = 0 then none
        else some (((v.extractLsb 24 0).toInt : ℚ) * s.cfg.scale / ((v.extractLsb 31 27).toNat : ℚ)))

/-- AVGT answers a pack total's count and sum, from which the pack voltage is read (43_filter.md section 2 (AVGT), 43_filter.md section 3 (volts), 30_encoding.md section 2 (response encoding)). -/
def Obligations.AvgtAnswersCountAndSum : Prop :=
  ∀ (p : Pack) (s : State), (s.tot p).totWf →
    ∃ v : Word, exec (.avgt p) s = .next { s with resp := some { code := .ok, value := v } } ∧
      (v.extractLsb 31 27).toNat = (s.tot p).count ∧ v.extractLsb 26 25 = 0 ∧
      (v.extractLsb 24 0).toInt = (s.tot p).sum ∧
      s.packVoltage p = (if (s.tot p).count = 0 then none
        else some (((v.extractLsb 24 0).toInt : ℚ) * s.cfg.scale / ((v.extractLsb 31 27).toNat : ℚ)))

/-- OVQ answers 1 exactly when some cell's mean is at least 4.15 V, in exact rationals (44_comparator.md (OVQ)). -/
def Obligations.OvqIsTheExactComparison : Prop :=
  ∀ s : State, s.cfg.legal →
    ∃ v : Word, exec .ovq s = .next { s with resp := some { code := .ok, value := v } } ∧ (v = 0 ∨ v = 1) ∧
      (v = 1 ↔ ∃ p j, j < s.cfg.numCells ∧ (s.cell p j).isOver s.cfg)

/-- UVQ answers 1 exactly when some cell's mean is below 3.4 V, in exact rationals (44_comparator.md (UVQ)). -/
def Obligations.UvqIsTheExactComparison : Prop :=
  ∀ s : State, s.cfg.legal →
    ∃ v : Word, exec .uvq s = .next { s with resp := some { code := .ok, value := v } } ∧ (v = 0 ∨ v = 1) ∧
      (v = 1 ↔ ∃ p j, j < s.cfg.numCells ∧ (s.cell p j).isUnder s.cfg)

/-- BALQ answers whether any mask is non-zero (44_comparator.md (BALQ)). -/
def Obligations.BalqReadsTheMasks : Prop :=
  ∀ s : State, exec .balq s = .next { s with
    resp := some { code := .ok, value := if s.mask .p0 ≠ 0 ∨ s.mask .p1 ≠ 0 then 1 else 0 } }

/-- OTQ and FLTQ answer (OK, 0) in every state (44_comparator.md (OTQ, FLTQ)). -/
def Obligations.OtqAndFltqAnswerZero : Prop :=
  ∀ s : State, exec .otq s = .next { s with resp := some { code := .ok, value := 0 } } ∧ exec .fltq s = .next { s with resp := some { code := .ok, value := 0 } }

/-- STATQ answers bit 0 OV, bit 1 UV, bit 2 BAL, as the three queries answer them (44_comparator.md (STATQ)). -/
def Obligations.StatqPacksTheThreeFlags : Prop :=
  ∀ s : State, ∃ ov uv bal : Word,
    exec .ovq s = .next { s with resp := some { code := .ok, value := ov } } ∧
    exec .uvq s = .next { s with resp := some { code := .ok, value := uv } } ∧
    exec .balq s = .next { s with resp := some { code := .ok, value := bal } } ∧
    exec .statq s = .next { s with resp := some { code := .ok, value := ov ||| uv <<< 1 ||| bal <<< 2 } } ∧
    (ov ||| uv <<< 1 ||| bal <<< 2).toNat < 8

/-- DIAGQ, MODEQ and MASKQ answer their register's value (44_comparator.md (DIAGQ, MODEQ, MASKQ)). -/
def Obligations.RegisterQueriesReadTheirRegister : Prop :=
  ∀ (p : Pack) (s : State),
    exec (.diagq p) s = .next { s with resp := some { code := .ok, value := if (s.pack p).diag then 1 else 0 } } ∧
    exec .modeq s = .next { s with resp := some { code := .ok, value :=
      match s.mode with
      | .standby => 0
      | .driving => 1
      | .charging => 2 } } ∧
    exec (.maskq p) s = .next { s with resp := some { code := .ok, value := (s.mask p).setWidth 32 } }

/-- No query writes state, sends a frame, reads the ADC or appends an event; totals feed no flag (R166). -/
def Obligations.QueriesArePure : Prop :=
  (∀ (i : Instr) (s : State), isQuery i = true →
    ∃ v : Word, exec i s = .next { s with resp := some { code := .ok, value := v } }) ∧
  ∀ (s : State) (a b : Ring), ((s.setTot .p0 a).setTot .p1 b).overVoltage = s.overVoltage ∧
    ((s.setTot .p0 a).setTot .p1 b).underVoltage = s.underVoltage

/-- OV, UV and BAL can hold together, but never OV and UV of one cell; 3.8 V everywhere sets neither (R170). -/
def Obligations.FlagCombinations : Prop :=
  (∃ s : State, s.inv ∧ s.overVoltage = true ∧ s.underVoltage = true ∧ s.balancing = true) ∧
  (∀ (c : Config) (b : Ring), c.legal → ¬ (b.isOver c ∧ b.isUnder c)) ∧
  ∀ s : State, s.cfg.legal →
    (∀ p j, j < s.cfg.numCells → 0 < (s.cell p j).count →
      ((s.cell p j).sum : ℚ) * s.cfg.scale = 19 / 5 * ((s.cell p j).count : ℚ)) →
    s.overVoltage = false ∧ s.underVoltage = false

/-- BALC sets exactly the bits of the cells whose mean is at least 4.15 V, and writes only the mask (45_balance.md (BALC)). -/
def Obligations.BalcRebuildsTheMask : Prop :=
  ∀ (p : Pack) (s : State), s.cfg.legal → s.halted = false → s.mode = .charging →
    ∃ m : Mask, exec (.balc p) s = .next { s.setPack p { s.pack p with mask := m } with resp := some { code := .ok, value := 0 } } ∧
      ∀ j, j < 16 → (m.getLsbD (15 - j) = true ↔ j < s.cfg.numCells ∧ (s.cell p j).isOver s.cfg)

/-- BALW sends the balance-set frame with the pack's mask and writes no state (45_balance.md (BALW)). -/
def Obligations.BalwCommitsTheMask : Prop :=
  ∀ (p : Pack) (s : State), s.halted = false → s.mode = .charging →
    exec (.balw p) s = .next { s with
      trace := s.trace ++ [.frame p ((s.mask p).extractLsb 15 8) ((s.mask p).extractLsb 7 0) s.cfg.ctrlBalset s.nextRx]
      resp := some { code := .ok, value := 0 }
      afeIn := s.afeIn.tail
      draws := s.draws + 1 } ∧
    ∃ t, exec (.afeBalset p) s = .next t ∧ exec (.balw p) s = .next { t with resp := some { code := .ok, value := 0 } }

/-- BALC and BALW run only in CHARGING; in DRIVING and STANDBY they answer BADMODE and change nothing (R182). -/
def Obligations.BalancingRunsInChargingOnly : Prop :=
  ∀ (p : Pack) (s : State), s.halted = false →
    (s.mode = .charging →
      (∃ t, exec (.balc p) s = .next t ∧ t.resp = some { code := .ok, value := 0 }) ∧
      ∃ t, exec (.balw p) s = .next t ∧ t.resp = some { code := .ok, value := 0 }) ∧
    (s.mode = .driving ∨ s.mode = .standby →
      exec (.balc p) s = .next { s with resp := some { code := .badMode, value := 0 } } ∧
      exec (.balw p) s = .next { s with resp := some { code := .badMode, value := 0 } })

/-- A cell is marked exactly when it alone makes OV true; after BALC 0 and BALC 1, OV = BAL (R184). -/
def Obligations.AfterBalcOverVoltageIsBalancing : Prop :=
  ∀ s : State, s.cfg.legal → s.halted = false → s.mode = .charging →
    ∃ t0 t1 : State, exec (.balc .p0) s = .next t0 ∧ exec (.balc .p1) t0 = .next t1 ∧
      (∀ p j, j < s.cfg.numCells → ((t1.mask p).getLsbD (15 - j) = true ↔ (s.cell p j).isOver s.cfg)) ∧
      t1.overVoltage = t1.balancing

/-- The transition function is the table, with its WAKE and SLEEP procedures, and does nothing otherwise (R193, R194, R195, R196). -/
def Obligations.TransitionsFollowTheTable : Prop :=
  ∀ (s : State) (ign cp : Bool),
    (s.mode = .standby → cp = true → s.trans ign cp = s.afterWake .charging) ∧
    (s.mode = .standby → cp = false → ign = true → s.trans ign cp = s.afterWake .driving) ∧
    (s.mode = .driving → ign = false → s.trans ign cp = s.afterSleep) ∧
    (s.mode = .charging → cp = false → s.trans ign cp = s.afterSleep) ∧
    (s.mode = .standby → ign = false → cp = false → s.trans ign cp = s) ∧
    (s.mode = .driving → ign = true → s.trans ign cp = s) ∧
    (s.mode = .charging → cp = true → s.trans ign cp = s)

/-- POLL debounces the ignition sample, then makes at most the one transition of the table (46_mode.md section 3 (POLL), 46_mode.md section 1 (debouncer)). -/
def Obligations.PollDebouncesThenTransitions : Prop :=
  ∀ (ign cp : Bool) (s d : State), s.halted = false →
    d = (if ign = s.ignDb then { s with ignCnt := 0 }
      else if s.cfg.ignDebounceN ≤ s.ignCnt + 1 then { s with ignDb := ign, ignCnt := 0 }
      else { s with ignCnt := s.ignCnt + 1 }) →
    exec (.poll ign cp) s = .next { d.afterTransition d.ignDb cp with resp := some { code := .ok, value := 0 } }

/-- The debounced level changes after IGN_DEBOUNCE_N consecutive disagreeing polls and not before (R190). -/
def Obligations.DebouncerCountsConsecutivePolls : Prop :=
  ∀ (s : State) (x : Bool),
    (x = s.ignDb → s.debounce x = { s with ignCnt := 0 }) ∧
    (x ≠ s.ignDb → s.cfg.ignDebounceN ≤ s.ignCnt + 1 → s.debounce x = { s with ignDb := x, ignCnt := 0 }) ∧
    (x ≠ s.ignDb → s.ignCnt + 1 < s.cfg.ignDebounceN → s.debounce x = { s with ignCnt := s.ignCnt + 1 }) ∧
    (x ≠ s.ignDb → s.ignCnt = 0 → 1 ≤ s.cfg.ignDebounceN →
      (∀ k, k < s.cfg.ignDebounceN → (fun u => State.debounce u x)^[k] s = { s with ignCnt := k }) ∧
      (fun u => State.debounce u x)^[s.cfg.ignDebounceN] s = { s with ignDb := x, ignCnt := 0 }) ∧
    (s.cfg.ignDebounceN = 1 → (s.debounce x).ignDb = x)

/-- Under constant inputs at most two transitions occur, and only in the two named cases (R200). -/
def Obligations.PollingIsIdempotent : Prop :=
  ∀ (s : State) (ign cp : Bool),
    ((s.trans ign cp).mode ≠ .standby → (s.trans ign cp).trans ign cp = s.trans ign cp) ∧
    ((s.trans ign cp).trans ign cp).trans ign cp = (s.trans ign cp).trans ign cp ∧
    ((s.trans ign cp).mode ≠ s.mode ∧ ((s.trans ign cp).trans ign cp).mode ≠ (s.trans ign cp).mode ↔
      (s.mode = .driving ∧ ign = false ∧ cp = true) ∨ (s.mode = .charging ∧ ign = true ∧ cp = false))

/-- MPOST writes the mailbox when the interrupt path is enabled, and nothing otherwise (46_mode.md section 3 (MPOST)). -/
def Obligations.MpostFillsTheMailbox : Prop :=
  ∀ (cp : Bool) (s : State), s.halted = false →
    exec (.mpost cp) s = .next { s with
      mbox := if s.cfg.cpIrqEnable then some cp else s.mbox
      resp := some { code := .ok, value := 0 } }

/-- MDRAIN empties the mailbox and applies its level through the transition table (46_mode.md section 3 (MDRAIN)). -/
def Obligations.MdrainAppliesTheMailbox : Prop :=
  ∀ s : State, s.halted = false →
    (s.mbox = none → exec .mdrain s = .next { s with resp := some { code := .ok, value := 0 } }) ∧
    ∀ v, s.mbox = some v →
      exec .mdrain s = .next { State.afterTransition { s with mbox := none } s.ignDb v with
        resp := some { code := .ok, value := 0 } }

/-- HALT sets the halt flag, answers OK, and changes nothing else (46_mode.md section 3 (HALT)). -/
def Obligations.HaltSetsOnlyTheHaltFlag : Prop :=
  ∀ s : State, exec .halt s = .next { s with halted := true, resp := some { code := .ok, value := 0 } }

/-- While halted every command but AVG, AVGT, the queries and HALT answers HALTED, and nothing changes (R233). -/
def Obligations.HaltedBlockAnswersReadsOnly : Prop :=
  ∀ s : State, s.halted = true →
    (∀ i, refusedWhileHalted i = true → exec i s = .next { s with resp := some { code := .halted, value := 0 } }) ∧
    (∀ i, isQuery i = true → ∃ v, exec i s = .next { s with resp := some { code := .ok, value := v } }) ∧
    (∀ p j, j < s.cfg.numCells → ∃ v, exec (.avg p j) s = .next { s with resp := some { code := .ok, value := v } }) ∧
    (∀ p, ∃ v, exec (.avgt p) s = .next { s with resp := some { code := .ok, value := v } }) ∧
    exec .halt s = .next { s with resp := some { code := .ok, value := 0 } } ∧
    ∀ t, step s = .next t → t = { s with cmds := t.cmds, resp := t.resp }

/-- The refusal checks are made in the order ILLEGAL, HALTED, BADARG, BADMODE (R232). -/
def Obligations.RefusalCodesByPriority : Prop :=
  ∀ s : State,
    (∀ w rest e, s.cmds = w :: rest → decode w = .error e →
      step s = .next { s with cmds := rest, resp := some { code := .illegal, value := 0 } }) ∧
    (s.halted = true → ∀ p j code,
      exec (.push p j code) s = .next { s with resp := some { code := .halted, value := 0 } } ∧
      exec (.acq p) s = .next { s with resp := some { code := .halted, value := 0 } } ∧
      exec (.balc p) s = .next { s with resp := some { code := .halted, value := 0 } } ∧
      exec (.balw p) s = .next { s with resp := some { code := .halted, value := 0 } }) ∧
    (∀ p j, s.cfg.numCells ≤ j → exec (.avg p j) s = .next { s with resp := some { code := .badArg, value := 0 } }) ∧
    (s.halted = false →
      (∀ p j code, s.cfg.numCells ≤ j →
        exec (.push p j code) s = .next { s with resp := some { code := .badArg, value := 0 } }) ∧
      (s.mode = .standby → ∀ p, exec (.acq p) s = .next { s with resp := some { code := .badMode, value := 0 } }) ∧
      (s.mode ≠ .charging → ∀ p,
        exec (.balc p) s = .next { s with resp := some { code := .badMode, value := 0 } } ∧
        exec (.balw p) s = .next { s with resp := some { code := .badMode, value := 0 } })) ∧
    (s.halted = false → ∀ i, i.isCommand = true → (∀ p j code, i = .push p j code → j < s.cfg.numCells) →
      (∀ p j, i = .avg p j → j < s.cfg.numCells) → (∀ p, i = .acq p → s.mode ≠ .standby) →
      (∀ p, i = .balc p ∨ i = .balw p → s.mode = .charging) →
      ∃ t v, exec i s = .next t ∧ t.resp = some { code := .ok, value := v })

/-- A command whose response is not OK writes no state and appends no event (R231). -/
def Obligations.RefusedCommandHasNoEffect : Prop :=
  ∀ (s t : State) (w : Word) (rest : List Word), s.cmds = w :: rest → step s = .next t →
    ∃ r, t.resp = some r ∧ (r.code ≠ .ok → t = { s with cmds := rest, resp := some r })

/-- CYCLE does what MDRAIN, ACQ 0, ACQ 1, the mode's actions and POLL do one after another (47_cycle.md (CYCLE pseudocode, steps 1 to 5)). -/
def Obligations.CycleIsTheSequenceOfItsCommands : Prop :=
  ∀ (ign cp : Bool) (s : State), s.halted = false →
    ∃ drained acquired acted t : State,
      exec .mdrain s = .next drained ∧
      ((drained.mode = .standby ∧ acquired = drained) ∨
        (drained.mode ≠ .standby ∧ ∃ a, exec (.acq .p0) drained = .next a ∧ exec (.acq .p1) a = .next acquired)) ∧
      ((acquired.mode = .standby ∧ acted = acquired) ∨
        (acquired.mode = .driving ∧ acted = { acquired with trace := acquired.trace ++ [.telemetry] }) ∨
        (acquired.mode = .charging ∧ ∃ b0 w0 b1 w1,
          exec (.balc .p0) acquired = .next b0 ∧ exec (.balw .p0) b0 = .next w0 ∧
          exec (.balc .p1) w0 = .next b1 ∧ exec (.balw .p1) b1 = .next w1 ∧
          acted = { w1 with trace := w1.trace ++ [.can w1.statusByte w1.faultByte] })) ∧
      exec (.poll ign cp) acted = .next t ∧ exec (.cycle ign cp) s = .next t

/-- The trace of one CYCLE, by the mode after step 1, with a transition's events first or last (R229). -/
def Obligations.CycleTraceByMode : Prop :=
  ∀ (ign cp : Bool) (s : State), s.halted = false →
    ∃ (d t : State) (x0 x1 y0 y1 : Word24) (middle : List Event),
      exec .mdrain s = .next d ∧ exec (.cycle ign cp) s = .next t ∧
      d.mode = s.drainEffect.modeAfter s.mode ∧
      t.mode = (transitionEffect d.mode (s.debounce ign).ignDb cp).modeAfter d.mode ∧
      d.trace = s.trace ++ s.drainEffect.events s.cfg x0 x1 ∧
      t.trace = d.trace ++ middle ++ (transitionEffect d.mode (s.debounce ign).ignDb cp).events s.cfg y0 y1 ∧
      (d.mode = .standby → middle = []) ∧
      (d.mode ≠ .standby → ∃ (f0 l0 f1 l1 : Word24) (r0 r1 : List (Word24 × Int)) (tail : List Event),
        r0.length = s.cfg.numCells ∧ r1.length = s.cfg.numCells ∧
        middle = acqEvents s.cfg .p0 (d.mask .p0) f0 r0 l0 ++ (if t.pack0.diag then [.diag .p0] else []) ++
          acqEvents s.cfg .p1 (d.mask .p1) f1 r1 l1 ++ (if t.pack1.diag then [.diag .p1] else []) ++ tail ∧
        (d.mode = .driving → tail = [.telemetry]) ∧
        (d.mode = .charging → ∃ rx0 rx1,
          tail = [.frame .p0 ((t.mask .p0).extractLsb 15 8) ((t.mask .p0).extractLsb 7 0) s.cfg.ctrlBalset rx0,
            .frame .p1 ((t.mask .p1).extractLsb 15 8) ((t.mask .p1).extractLsb 7 0) s.cfg.ctrlBalset rx1,
            .can t.statusByte t.faultByte]))

/-- The block's invariant holds at reset, under any legal parameters and under the default ones (70_reset_and_hazards.md section 1 (reset state), 10_state.md section 2 (ring-buffer invariant)). Rests on the model's choice in log 2, log 7. -/
def Obligations.InvariantHoldsAtReset : Prop :=
  (∀ c : Config, c.legal → (State.resetWith c).inv) ∧ State.reset = State.resetWith Config.default ∧ State.reset.inv

/-- Every step keeps the block's invariant, whatever the host issues and the oracles answer (10_state.md section 2 (ring-buffer invariant, ign_cnt, mask), 70_reset_and_hazards.md section 3 (masks are zero in DRIVING), 43_filter.md section 3 (arithmetic width)). -/
def Obligations.InvariantKeptByEveryStep : Prop :=
  ∀ s t : State, s.inv → step s = .next t → t.inv

/-- In DRIVING both masks are zero after every command, and acquisition frames carry zero (R275). -/
def Obligations.MasksAreZeroInDriving : Prop :=
  (∀ (c : Config) (p : Pack), (State.resetWith c).mode = .driving → (State.resetWith c).mask p = 0) ∧
  (∀ s t : State, (s.mode = .driving → ∀ p, s.mask p = 0) → step s = .next t →
    t.mode = .driving → ∀ p, t.mask p = 0) ∧
  ∀ (p : Pack) (s : State), (∀ q, s.mask q = 0) → s.mode = .driving → s.halted = false →
    ∃ t, exec (.acq p) s = .next t ∧
      ∀ q t0 t1 t2 rx, Event.frame q t0 t1 t2 rx ∈ newEvents s t → t0 = 0x00 ∧ t1 = 0x00

/-- A step sets a mask bit only of a cell whose mean is at least 4.15 V in the state it leaves (45_balance.md (mask invariant)). -/
def Obligations.NewMaskBitsHaveHighMeans : Prop :=
  ∀ s t : State, s.cfg.legal → step s = .next t → ∀ p j, j < 16 →
    (t.mask p).getLsbD (15 - j) = true →
      (s.mask p).getLsbD (15 - j) = true ∨ (j < t.cfg.numCells ∧ (t.cell p j).isOver t.cfg)

/-- No step changes a parameter (R8). -/
def Obligations.ParametersNeverChange : Prop :=
  ∀ s t : State, step s = .next t → t.cfg = s.cfg

/-- Each register is written only by the commands the spec names for it (10_state.md sections 3 and 4 (flags, registers, single writer per register)). -/
def Obligations.SingleWriterPerRegister : Prop :=
  ∀ (i : Instr) (s t : State), exec i s = .next t →
    ((∀ ign cp, i ≠ .cycle ign cp) →
      ((∀ ign cp, i ≠ .poll ign cp) → t.ignDb = s.ignDb ∧ t.ignCnt = s.ignCnt) ∧
      ((∀ ign cp, i ≠ .poll ign cp) → i ≠ .mdrain →
        t.mode = s.mode ∧ t.radioEn = s.radioEn ∧
        (∀ p, i ≠ .balc p → t.mask p = s.mask p) ∧
        ∀ p, (∀ v, i ≠ .seten p v) → (t.pack p).enable = (s.pack p).enable) ∧
      ((∀ cp, i ≠ .mpost cp) → i ≠ .mdrain → t.mbox = s.mbox) ∧
      ∀ p, i ≠ .acq p →
        (t.pack p).diag = (s.pack p).diag ∧
        ((∀ j x, i ≠ .push p j x) → (t.pack p).buf = (s.pack p).buf) ∧
        ((∀ x, i ≠ .pusht p x) → t.tot p = s.tot p)) ∧
    (i ≠ .halt → t.halted = s.halted) ∧ t.cfg = s.cfg ∧ t.cmds = s.cmds

/-- A step only appends to the event trace (10_state.md section 4 (event trace)). -/
def Obligations.TraceOnlyGrows : Prop :=
  ∀ s t : State, step s = .next t → ∃ es : List Event, t.trace = s.trace ++ es

/-- No step faults and no instruction is refused (93_implementation_defined.md I16, 60_exceptions.md sections 1 and 3). -/
def Obligations.EveryStepAnswersANextState : Prop :=
  (∀ s : State, ∃ t, step s = .next t) ∧ ∀ (i : Instr) (s : State), ∃ t, exec i s = .next t
end

