-- ==== Sys2Proof/Laws/Filter.lean ====
section
/-! SUPPORT. What a push leaves (43_filter.md R140), and that the integer comparisons are the rational ones of 44_comparator.md R160 and R161. -/

namespace Sys2Proof.Machine

open Sys2Proof

/-- A push into a buffer that is not full. -/
theorem Ring.push_filling (b : Ring) (x : Int) (h : b.count < cap) :
    b.push x = { slots := b.slots.set b.head x, head := (b.head + 1) % cap, count := b.count + 1, sum := b.sum + x } := by
  simp [Ring.push, Ring.write, h]

/-- A push into a full buffer: the slot at head is evicted. -/
theorem Ring.push_evicting (b : Ring) (x : Int) (h : cap ≤ b.count) :
    b.push x =
      { slots := b.slots.set b.head x
        head := (b.head + 1) % cap
        count := b.count
        sum := b.sum - b.slots.getD b.head 0 + x } := by
  simp [Ring.push, Ring.write, Ring.read, Nat.not_lt.mpr h]

@[simp] theorem Ring.push_slots (b : Ring) (x : Int) : (b.push x).slots = b.slots.set b.head x := by
  unfold Ring.push
  split <;> rfl

@[simp] theorem Ring.push_head (b : Ring) (x : Int) : (b.push x).head = (b.head + 1) % cap := rfl

/-- Writing one element of a list changes its sum by the difference. -/
theorem sum_set_getD (l : List Int) (k : Nat) (h : k < l.length) (x : Int) :
    (l.set k x).sum = l.sum - l.getD k 0 + x := by
  induction l generalizing k with
  | nil => simp at h
  | cons a l ih =>
    cases k with
    | zero => simp [add_comm]
    | succ k =>
      simp only [List.length_cons, Nat.add_lt_add_iff_right] at h
      simp only [List.set_cons_succ, List.sum_cons, ih k h, List.getD_cons_succ]
      ring

/-- The scaled sum as one fraction. -/
theorem sum_mul_scale (c : Config) (b : Ring) :
    (b.sum : ℚ) * c.scale = ((b.sum : ℚ) * c.fsrNum) / (c.fsrDen * 2 ^ c.adcRes) := by
  simp only [Config.scale, Config.fsr]
  ring_nf

/-- The comparison of OV and BALC in integers is the rule's comparison in rationals (R160, R180). -/
theorem Ring.atLeastUpper_iff_isOver (c : Config) (h : c.legal) (b : Ring) : b.atLeastUpper c = true ↔ b.isOver c := by
  have hd : (0 : ℚ) < c.fsrDen := by exact_mod_cast h.2.2.2.2.2.1
  have hp : (0 : ℚ) < 2 ^ c.adcRes := by positivity
  simp only [Ring.atLeastUpper, Ring.isOver, Bool.and_eq_true, decide_eq_true_eq, vUp]
  refine and_congr_right fun _ => ?_
  rw [sum_mul_scale, le_div_iff₀ (by positivity), ← @Int.cast_le ℚ]
  push_cast
  constructor <;> intro h <;> nlinarith

/-- The comparison of UV in integers is the rule's comparison in rationals (R161). -/
theorem Ring.belowLower_iff_isUnder (c : Config) (h : c.legal) (b : Ring) : b.belowLower c = true ↔ b.isUnder c := by
  have hd : (0 : ℚ) < c.fsrDen := by exact_mod_cast h.2.2.2.2.2.1
  have hp : (0 : ℚ) < 2 ^ c.adcRes := by positivity
  simp only [Ring.belowLower, Ring.isUnder, Bool.and_eq_true, decide_eq_true_eq, vLo]
  refine and_congr_right fun _ => ?_
  rw [sum_mul_scale, div_lt_iff₀ (by positivity), ← @Int.cast_lt ℚ]
  push_cast
  constructor <;> intro h <;> nlinarith

end Sys2Proof.Machine
end

