-- ==== Sys2Proof/Laws/State.lean ====
section
/-! SUPPORT. One lemma per field per update of the state, true by unfolding, so that no later proof unfolds a record update. -/

namespace Sys2Proof.Machine

open Sys2Proof

variable (s : State)

/-! Pack access. -/

@[simp] theorem State.pack_p0 : s.pack .p0 = s.pack0 := rfl
@[simp] theorem State.pack_p1 : s.pack .p1 = s.pack1 := rfl

/-- A pack's state after a write of a pack's state. -/
theorem State.setPack_pack (p q : Pack) (x : PackState) : (s.setPack p x).pack q = if q = p then x else s.pack q := by
  cases p <;> cases q <;> rfl

@[simp] theorem State.setPack_pack_same (p : Pack) (x : PackState) : (s.setPack p x).pack p = x := by cases p <;> rfl
theorem State.setPack_pack_other {p q : Pack} (h : q ≠ p) (x : PackState) : (s.setPack p x).pack q = s.pack q := by
  simp [State.setPack_pack, h]
@[simp] theorem State.setPack_self (p : Pack) : s.setPack p (s.pack p) = s := by cases p <;> rfl
@[simp] theorem State.setPack_setPack (p : Pack) (x y : PackState) : (s.setPack p x).setPack p y = s.setPack p y := by
  cases p <;> rfl

/-! emit. -/

@[simp] theorem State.emit_mode (e : Event) : (s.emit e).mode = s.mode := rfl
@[simp] theorem State.emit_pack0 (e : Event) : (s.emit e).pack0 = s.pack0 := rfl
@[simp] theorem State.emit_pack1 (e : Event) : (s.emit e).pack1 = s.pack1 := rfl
@[simp] theorem State.emit_radioEn (e : Event) : (s.emit e).radioEn = s.radioEn := rfl
@[simp] theorem State.emit_ignDb (e : Event) : (s.emit e).ignDb = s.ignDb := rfl
@[simp] theorem State.emit_ignCnt (e : Event) : (s.emit e).ignCnt = s.ignCnt := rfl
@[simp] theorem State.emit_mbox (e : Event) : (s.emit e).mbox = s.mbox := rfl
@[simp] theorem State.emit_halted (e : Event) : (s.emit e).halted = s.halted := rfl
@[simp] theorem State.emit_trace (e : Event) : (s.emit e).trace = s.trace ++ [e] := rfl
@[simp] theorem State.emit_resp (e : Event) : (s.emit e).resp = s.resp := rfl
@[simp] theorem State.emit_cfg (e : Event) : (s.emit e).cfg = s.cfg := rfl
@[simp] theorem State.emit_cmds (e : Event) : (s.emit e).cmds = s.cmds := rfl
@[simp] theorem State.emit_afeIn (e : Event) : (s.emit e).afeIn = s.afeIn := rfl
@[simp] theorem State.emit_adcIn (e : Event) : (s.emit e).adcIn = s.adcIn := rfl
@[simp] theorem State.emit_draws (e : Event) : (s.emit e).draws = s.draws := rfl
@[simp] theorem State.emit_pack (e : Event) (q : Pack) : (s.emit e).pack q = s.pack q := by cases q <;> rfl
@[simp] theorem State.emit_mask (e : Event) (q : Pack) : (s.emit e).mask q = s.mask q := by cases q <;> rfl
@[simp] theorem State.emit_cell (e : Event) (q : Pack) (i : Nat) : (s.emit e).cell q i = s.cell q i := by cases q <;> rfl
@[simp] theorem State.emit_tot (e : Event) (q : Pack) : (s.emit e).tot q = s.tot q := by cases q <;> rfl

/-! delay. -/

@[simp] theorem State.delay_mode (k : DelayKind) : (s.delay k).mode = s.mode := rfl
@[simp] theorem State.delay_pack0 (k : DelayKind) : (s.delay k).pack0 = s.pack0 := rfl
@[simp] theorem State.delay_pack1 (k : DelayKind) : (s.delay k).pack1 = s.pack1 := rfl
@[simp] theorem State.delay_radioEn (k : DelayKind) : (s.delay k).radioEn = s.radioEn := rfl
@[simp] theorem State.delay_ignDb (k : DelayKind) : (s.delay k).ignDb = s.ignDb := rfl
@[simp] theorem State.delay_ignCnt (k : DelayKind) : (s.delay k).ignCnt = s.ignCnt := rfl
@[simp] theorem State.delay_mbox (k : DelayKind) : (s.delay k).mbox = s.mbox := rfl
@[simp] theorem State.delay_halted (k : DelayKind) : (s.delay k).halted = s.halted := rfl
@[simp] theorem State.delay_trace (k : DelayKind) : (s.delay k).trace = s.trace ++ [.delay k] := rfl
@[simp] theorem State.delay_resp (k : DelayKind) : (s.delay k).resp = s.resp := rfl
@[simp] theorem State.delay_cfg (k : DelayKind) : (s.delay k).cfg = s.cfg := rfl
@[simp] theorem State.delay_cmds (k : DelayKind) : (s.delay k).cmds = s.cmds := rfl
@[simp] theorem State.delay_afeIn (k : DelayKind) : (s.delay k).afeIn = s.afeIn := rfl
@[simp] theorem State.delay_adcIn (k : DelayKind) : (s.delay k).adcIn = s.adcIn := rfl
@[simp] theorem State.delay_draws (k : DelayKind) : (s.delay k).draws = s.draws := rfl
@[simp] theorem State.delay_pack (k : DelayKind) (q : Pack) : (s.delay k).pack q = s.pack q := by cases q <;> rfl
@[simp] theorem State.delay_mask (k : DelayKind) (q : Pack) : (s.delay k).mask q = s.mask q := by cases q <;> rfl
@[simp] theorem State.delay_cell (k : DelayKind) (q : Pack) (i : Nat) : (s.delay k).cell q i = s.cell q i := by cases q <;> rfl
@[simp] theorem State.delay_tot (k : DelayKind) (q : Pack) : (s.delay k).tot q = s.tot q := by cases q <;> rfl

/-! frame. -/

@[simp] theorem State.frame_mode (p : Pack) (t0 t1 t2 : Byte) : (s.frame p t0 t1 t2).mode = s.mode := rfl
@[simp] theorem State.frame_pack0 (p : Pack) (t0 t1 t2 : Byte) : (s.frame p t0 t1 t2).pack0 = s.pack0 := rfl
@[simp] theorem State.frame_pack1 (p : Pack) (t0 t1 t2 : Byte) : (s.frame p t0 t1 t2).pack1 = s.pack1 := rfl
@[simp] theorem State.frame_radioEn (p : Pack) (t0 t1 t2 : Byte) : (s.frame p t0 t1 t2).radioEn = s.radioEn := rfl
@[simp] theorem State.frame_ignDb (p : Pack) (t0 t1 t2 : Byte) : (s.frame p t0 t1 t2).ignDb = s.ignDb := rfl
@[simp] theorem State.frame_ignCnt (p : Pack) (t0 t1 t2 : Byte) : (s.frame p t0 t1 t2).ignCnt = s.ignCnt := rfl
@[simp] theorem State.frame_mbox (p : Pack) (t0 t1 t2 : Byte) : (s.frame p t0 t1 t2).mbox = s.mbox := rfl
@[simp] theorem State.frame_halted (p : Pack) (t0 t1 t2 : Byte) : (s.frame p t0 t1 t2).halted = s.halted := rfl
@[simp] theorem State.frame_trace (p : Pack) (t0 t1 t2 : Byte) : (s.frame p t0 t1 t2).trace = s.trace ++ [.frame p t0 t1 t2 s.nextRx] := rfl
@[simp] theorem State.frame_resp (p : Pack) (t0 t1 t2 : Byte) : (s.frame p t0 t1 t2).resp = s.resp := rfl
@[simp] theorem State.frame_cfg (p : Pack) (t0 t1 t2 : Byte) : (s.frame p t0 t1 t2).cfg = s.cfg := rfl
@[simp] theorem State.frame_cmds (p : Pack) (t0 t1 t2 : Byte) : (s.frame p t0 t1 t2).cmds = s.cmds := rfl
@[simp] theorem State.frame_afeIn (p : Pack) (t0 t1 t2 : Byte) : (s.frame p t0 t1 t2).afeIn = s.afeIn.tail := rfl
@[simp] theorem State.frame_adcIn (p : Pack) (t0 t1 t2 : Byte) : (s.frame p t0 t1 t2).adcIn = s.adcIn := rfl
@[simp] theorem State.frame_draws (p : Pack) (t0 t1 t2 : Byte) : (s.frame p t0 t1 t2).draws = s.draws + 1 := rfl
@[simp] theorem State.frame_pack (p : Pack) (t0 t1 t2 : Byte) (q : Pack) : (s.frame p t0 t1 t2).pack q = s.pack q := by cases q <;> rfl
@[simp] theorem State.frame_mask (p : Pack) (t0 t1 t2 : Byte) (q : Pack) : (s.frame p t0 t1 t2).mask q = s.mask q := by cases q <;> rfl
@[simp] theorem State.frame_cell (p : Pack) (t0 t1 t2 : Byte) (q : Pack) (i : Nat) : (s.frame p t0 t1 t2).cell q i = s.cell q i := by cases q <;> rfl
@[simp] theorem State.frame_tot (p : Pack) (t0 t1 t2 : Byte) (q : Pack) : (s.frame p t0 t1 t2).tot q = s.tot q := by cases q <;> rfl

/-! sendMask. -/

@[simp] theorem State.sendMask_mode (p : Pack) (m : Mask) (t : Byte) : (s.sendMask p m t).mode = s.mode := rfl
@[simp] theorem State.sendMask_pack0 (p : Pack) (m : Mask) (t : Byte) : (s.sendMask p m t).pack0 = s.pack0 := rfl
@[simp] theorem State.sendMask_pack1 (p : Pack) (m : Mask) (t : Byte) : (s.sendMask p m t).pack1 = s.pack1 := rfl
@[simp] theorem State.sendMask_radioEn (p : Pack) (m : Mask) (t : Byte) : (s.sendMask p m t).radioEn = s.radioEn := rfl
@[simp] theorem State.sendMask_ignDb (p : Pack) (m : Mask) (t : Byte) : (s.sendMask p m t).ignDb = s.ignDb := rfl
@[simp] theorem State.sendMask_ignCnt (p : Pack) (m : Mask) (t : Byte) : (s.sendMask p m t).ignCnt = s.ignCnt := rfl
@[simp] theorem State.sendMask_mbox (p : Pack) (m : Mask) (t : Byte) : (s.sendMask p m t).mbox = s.mbox := rfl
@[simp] theorem State.sendMask_halted (p : Pack) (m : Mask) (t : Byte) : (s.sendMask p m t).halted = s.halted := rfl
@[simp] theorem State.sendMask_trace (p : Pack) (m : Mask) (t : Byte) : (s.sendMask p m t).trace = s.trace ++ [.frame p (hiByte m) (loByte m) t s.nextRx] := rfl
@[simp] theorem State.sendMask_resp (p : Pack) (m : Mask) (t : Byte) : (s.sendMask p m t).resp = s.resp := rfl
@[simp] theorem State.sendMask_cfg (p : Pack) (m : Mask) (t : Byte) : (s.sendMask p m t).cfg = s.cfg := rfl
@[simp] theorem State.sendMask_cmds (p : Pack) (m : Mask) (t : Byte) : (s.sendMask p m t).cmds = s.cmds := rfl
@[simp] theorem State.sendMask_afeIn (p : Pack) (m : Mask) (t : Byte) : (s.sendMask p m t).afeIn = s.afeIn.tail := rfl
@[simp] theorem State.sendMask_adcIn (p : Pack) (m : Mask) (t : Byte) : (s.sendMask p m t).adcIn = s.adcIn := rfl
@[simp] theorem State.sendMask_draws (p : Pack) (m : Mask) (t : Byte) : (s.sendMask p m t).draws = s.draws + 1 := rfl
@[simp] theorem State.sendMask_pack (p : Pack) (m : Mask) (t : Byte) (q : Pack) : (s.sendMask p m t).pack q = s.pack q := by cases q <;> rfl
@[simp] theorem State.sendMask_mask (p : Pack) (m : Mask) (t : Byte) (q : Pack) : (s.sendMask p m t).mask q = s.mask q := by cases q <;> rfl
@[simp] theorem State.sendMask_cell (p : Pack) (m : Mask) (t : Byte) (q : Pack) (i : Nat) : (s.sendMask p m t).cell q i = s.cell q i := by cases q <;> rfl
@[simp] theorem State.sendMask_tot (p : Pack) (m : Mask) (t : Byte) (q : Pack) : (s.sendMask p m t).tot q = s.tot q := by cases q <;> rfl

/-! adcRead. -/

@[simp] theorem State.adcRead_mode (ch : Nat) : (s.adcRead ch).mode = s.mode := rfl
@[simp] theorem State.adcRead_pack0 (ch : Nat) : (s.adcRead ch).pack0 = s.pack0 := rfl
@[simp] theorem State.adcRead_pack1 (ch : Nat) : (s.adcRead ch).pack1 = s.pack1 := rfl
@[simp] theorem State.adcRead_radioEn (ch : Nat) : (s.adcRead ch).radioEn = s.radioEn := rfl
@[simp] theorem State.adcRead_ignDb (ch : Nat) : (s.adcRead ch).ignDb = s.ignDb := rfl
@[simp] theorem State.adcRead_ignCnt (ch : Nat) : (s.adcRead ch).ignCnt = s.ignCnt := rfl
@[simp] theorem State.adcRead_mbox (ch : Nat) : (s.adcRead ch).mbox = s.mbox := rfl
@[simp] theorem State.adcRead_halted (ch : Nat) : (s.adcRead ch).halted = s.halted := rfl
@[simp] theorem State.adcRead_trace (ch : Nat) : (s.adcRead ch).trace = s.trace ++ [.adc ch s.nextCode] := rfl
@[simp] theorem State.adcRead_resp (ch : Nat) : (s.adcRead ch).resp = s.resp := rfl
@[simp] theorem State.adcRead_cfg (ch : Nat) : (s.adcRead ch).cfg = s.cfg := rfl
@[simp] theorem State.adcRead_cmds (ch : Nat) : (s.adcRead ch).cmds = s.cmds := rfl
@[simp] theorem State.adcRead_afeIn (ch : Nat) : (s.adcRead ch).afeIn = s.afeIn := rfl
@[simp] theorem State.adcRead_adcIn (ch : Nat) : (s.adcRead ch).adcIn = s.adcIn.tail := rfl
@[simp] theorem State.adcRead_draws (ch : Nat) : (s.adcRead ch).draws = s.draws + 1 := rfl
@[simp] theorem State.adcRead_pack (ch : Nat) (q : Pack) : (s.adcRead ch).pack q = s.pack q := by cases q <;> rfl
@[simp] theorem State.adcRead_mask (ch : Nat) (q : Pack) : (s.adcRead ch).mask q = s.mask q := by cases q <;> rfl
@[simp] theorem State.adcRead_cell (ch : Nat) (q : Pack) (i : Nat) : (s.adcRead ch).cell q i = s.cell q i := by cases q <;> rfl
@[simp] theorem State.adcRead_tot (ch : Nat) (q : Pack) : (s.adcRead ch).tot q = s.tot q := by cases q <;> rfl

/-! radio. -/

@[simp] theorem State.radio_mode (v : Bool) : (s.radio v).mode = s.mode := rfl
@[simp] theorem State.radio_pack0 (v : Bool) : (s.radio v).pack0 = s.pack0 := rfl
@[simp] theorem State.radio_pack1 (v : Bool) : (s.radio v).pack1 = s.pack1 := rfl
@[simp] theorem State.radio_radioEn (v : Bool) : (s.radio v).radioEn = v := rfl
@[simp] theorem State.radio_ignDb (v : Bool) : (s.radio v).ignDb = s.ignDb := rfl
@[simp] theorem State.radio_ignCnt (v : Bool) : (s.radio v).ignCnt = s.ignCnt := rfl
@[simp] theorem State.radio_mbox (v : Bool) : (s.radio v).mbox = s.mbox := rfl
@[simp] theorem State.radio_halted (v : Bool) : (s.radio v).halted = s.halted := rfl
@[simp] theorem State.radio_trace (v : Bool) : (s.radio v).trace = s.trace ++ [.radio v] := rfl
@[simp] theorem State.radio_resp (v : Bool) : (s.radio v).resp = s.resp := rfl
@[simp] theorem State.radio_cfg (v : Bool) : (s.radio v).cfg = s.cfg := rfl
@[simp] theorem State.radio_cmds (v : Bool) : (s.radio v).cmds = s.cmds := rfl
@[simp] theorem State.radio_afeIn (v : Bool) : (s.radio v).afeIn = s.afeIn := rfl
@[simp] theorem State.radio_adcIn (v : Bool) : (s.radio v).adcIn = s.adcIn := rfl
@[simp] theorem State.radio_draws (v : Bool) : (s.radio v).draws = s.draws := rfl
@[simp] theorem State.radio_pack (v : Bool) (q : Pack) : (s.radio v).pack q = s.pack q := by cases q <;> rfl
@[simp] theorem State.radio_mask (v : Bool) (q : Pack) : (s.radio v).mask q = s.mask q := by cases q <;> rfl
@[simp] theorem State.radio_cell (v : Bool) (q : Pack) (i : Nat) : (s.radio v).cell q i = s.cell q i := by cases q <;> rfl
@[simp] theorem State.radio_tot (v : Bool) (q : Pack) : (s.radio v).tot q = s.tot q := by cases q <;> rfl

/-! respond. -/

@[simp] theorem State.respond_mode (c : Code) (v : Word) : (s.respond c v).mode = s.mode := rfl
@[simp] theorem State.respond_pack0 (c : Code) (v : Word) : (s.respond c v).pack0 = s.pack0 := rfl
@[simp] theorem State.respond_pack1 (c : Code) (v : Word) : (s.respond c v).pack1 = s.pack1 := rfl
@[simp] theorem State.respond_radioEn (c : Code) (v : Word) : (s.respond c v).radioEn = s.radioEn := rfl
@[simp] theorem State.respond_ignDb (c : Code) (v : Word) : (s.respond c v).ignDb = s.ignDb := rfl
@[simp] theorem State.respond_ignCnt (c : Code) (v : Word) : (s.respond c v).ignCnt = s.ignCnt := rfl
@[simp] theorem State.respond_mbox (c : Code) (v : Word) : (s.respond c v).mbox = s.mbox := rfl
@[simp] theorem State.respond_halted (c : Code) (v : Word) : (s.respond c v).halted = s.halted := rfl
@[simp] theorem State.respond_trace (c : Code) (v : Word) : (s.respond c v).trace = s.trace := rfl
@[simp] theorem State.respond_resp (c : Code) (v : Word) : (s.respond c v).resp = some { code := c, value := v } := rfl
@[simp] theorem State.respond_cfg (c : Code) (v : Word) : (s.respond c v).cfg = s.cfg := rfl
@[simp] theorem State.respond_cmds (c : Code) (v : Word) : (s.respond c v).cmds = s.cmds := rfl
@[simp] theorem State.respond_afeIn (c : Code) (v : Word) : (s.respond c v).afeIn = s.afeIn := rfl
@[simp] theorem State.respond_adcIn (c : Code) (v : Word) : (s.respond c v).adcIn = s.adcIn := rfl
@[simp] theorem State.respond_draws (c : Code) (v : Word) : (s.respond c v).draws = s.draws := rfl
@[simp] theorem State.respond_pack (c : Code) (v : Word) (q : Pack) : (s.respond c v).pack q = s.pack q := by cases q <;> rfl
@[simp] theorem State.respond_mask (c : Code) (v : Word) (q : Pack) : (s.respond c v).mask q = s.mask q := by cases q <;> rfl
@[simp] theorem State.respond_cell (c : Code) (v : Word) (q : Pack) (i : Nat) : (s.respond c v).cell q i = s.cell q i := by cases q <;> rfl
@[simp] theorem State.respond_tot (c : Code) (v : Word) (q : Pack) : (s.respond c v).tot q = s.tot q := by cases q <;> rfl

/-! done. -/

@[simp] theorem State.done_mode : (s.done).mode = s.mode := rfl
@[simp] theorem State.done_pack0 : (s.done).pack0 = s.pack0 := rfl
@[simp] theorem State.done_pack1 : (s.done).pack1 = s.pack1 := rfl
@[simp] theorem State.done_radioEn : (s.done).radioEn = s.radioEn := rfl
@[simp] theorem State.done_ignDb : (s.done).ignDb = s.ignDb := rfl
@[simp] theorem State.done_ignCnt : (s.done).ignCnt = s.ignCnt := rfl
@[simp] theorem State.done_mbox : (s.done).mbox = s.mbox := rfl
@[simp] theorem State.done_halted : (s.done).halted = s.halted := rfl
@[simp] theorem State.done_trace : (s.done).trace = s.trace := rfl
@[simp] theorem State.done_resp : (s.done).resp = some { code := .ok, value := 0 } := rfl
@[simp] theorem State.done_cfg : (s.done).cfg = s.cfg := rfl
@[simp] theorem State.done_cmds : (s.done).cmds = s.cmds := rfl
@[simp] theorem State.done_afeIn : (s.done).afeIn = s.afeIn := rfl
@[simp] theorem State.done_adcIn : (s.done).adcIn = s.adcIn := rfl
@[simp] theorem State.done_draws : (s.done).draws = s.draws := rfl
@[simp] theorem State.done_pack (q : Pack) : (s.done).pack q = s.pack q := by cases q <;> rfl
@[simp] theorem State.done_mask (q : Pack) : (s.done).mask q = s.mask q := by cases q <;> rfl
@[simp] theorem State.done_cell (q : Pack) (i : Nat) : (s.done).cell q i = s.cell q i := by cases q <;> rfl
@[simp] theorem State.done_tot (q : Pack) : (s.done).tot q = s.tot q := by cases q <;> rfl

/-! refuse. -/

@[simp] theorem State.refuse_mode (c : Code) : (s.refuse c).mode = s.mode := rfl
@[simp] theorem State.refuse_pack0 (c : Code) : (s.refuse c).pack0 = s.pack0 := rfl
@[simp] theorem State.refuse_pack1 (c : Code) : (s.refuse c).pack1 = s.pack1 := rfl
@[simp] theorem State.refuse_radioEn (c : Code) : (s.refuse c).radioEn = s.radioEn := rfl
@[simp] theorem State.refuse_ignDb (c : Code) : (s.refuse c).ignDb = s.ignDb := rfl
@[simp] theorem State.refuse_ignCnt (c : Code) : (s.refuse c).ignCnt = s.ignCnt := rfl
@[simp] theorem State.refuse_mbox (c : Code) : (s.refuse c).mbox = s.mbox := rfl
@[simp] theorem State.refuse_halted (c : Code) : (s.refuse c).halted = s.halted := rfl
@[simp] theorem State.refuse_trace (c : Code) : (s.refuse c).trace = s.trace := rfl
@[simp] theorem State.refuse_resp (c : Code) : (s.refuse c).resp = some { code := c, value := 0 } := rfl
@[simp] theorem State.refuse_cfg (c : Code) : (s.refuse c).cfg = s.cfg := rfl
@[simp] theorem State.refuse_cmds (c : Code) : (s.refuse c).cmds = s.cmds := rfl
@[simp] theorem State.refuse_afeIn (c : Code) : (s.refuse c).afeIn = s.afeIn := rfl
@[simp] theorem State.refuse_adcIn (c : Code) : (s.refuse c).adcIn = s.adcIn := rfl
@[simp] theorem State.refuse_draws (c : Code) : (s.refuse c).draws = s.draws := rfl
@[simp] theorem State.refuse_pack (c : Code) (q : Pack) : (s.refuse c).pack q = s.pack q := by cases q <;> rfl
@[simp] theorem State.refuse_mask (c : Code) (q : Pack) : (s.refuse c).mask q = s.mask q := by cases q <;> rfl
@[simp] theorem State.refuse_cell (c : Code) (q : Pack) (i : Nat) : (s.refuse c).cell q i = s.cell q i := by cases q <;> rfl
@[simp] theorem State.refuse_tot (c : Code) (q : Pack) : (s.refuse c).tot q = s.tot q := by cases q <;> rfl

/-! enterHalt. -/

@[simp] theorem State.enterHalt_mode : (s.enterHalt).mode = s.mode := rfl
@[simp] theorem State.enterHalt_pack0 : (s.enterHalt).pack0 = s.pack0 := rfl
@[simp] theorem State.enterHalt_pack1 : (s.enterHalt).pack1 = s.pack1 := rfl
@[simp] theorem State.enterHalt_radioEn : (s.enterHalt).radioEn = s.radioEn := rfl
@[simp] theorem State.enterHalt_ignDb : (s.enterHalt).ignDb = s.ignDb := rfl
@[simp] theorem State.enterHalt_ignCnt : (s.enterHalt).ignCnt = s.ignCnt := rfl
@[simp] theorem State.enterHalt_mbox : (s.enterHalt).mbox = s.mbox := rfl
@[simp] theorem State.enterHalt_halted : (s.enterHalt).halted = true := rfl
@[simp] theorem State.enterHalt_trace : (s.enterHalt).trace = s.trace := rfl
@[simp] theorem State.enterHalt_resp : (s.enterHalt).resp = s.resp := rfl
@[simp] theorem State.enterHalt_cfg : (s.enterHalt).cfg = s.cfg := rfl
@[simp] theorem State.enterHalt_cmds : (s.enterHalt).cmds = s.cmds := rfl
@[simp] theorem State.enterHalt_afeIn : (s.enterHalt).afeIn = s.afeIn := rfl
@[simp] theorem State.enterHalt_adcIn : (s.enterHalt).adcIn = s.adcIn := rfl
@[simp] theorem State.enterHalt_draws : (s.enterHalt).draws = s.draws := rfl
@[simp] theorem State.enterHalt_pack (q : Pack) : (s.enterHalt).pack q = s.pack q := by cases q <;> rfl
@[simp] theorem State.enterHalt_mask (q : Pack) : (s.enterHalt).mask q = s.mask q := by cases q <;> rfl
@[simp] theorem State.enterHalt_cell (q : Pack) (i : Nat) : (s.enterHalt).cell q i = s.cell q i := by cases q <;> rfl
@[simp] theorem State.enterHalt_tot (q : Pack) : (s.enterHalt).tot q = s.tot q := by cases q <;> rfl

/-! setMode. -/

@[simp] theorem State.setMode_mode (m : Mode) : (s.setMode m).mode = m := rfl
@[simp] theorem State.setMode_pack0 (m : Mode) : (s.setMode m).pack0 = s.pack0 := rfl
@[simp] theorem State.setMode_pack1 (m : Mode) : (s.setMode m).pack1 = s.pack1 := rfl
@[simp] theorem State.setMode_radioEn (m : Mode) : (s.setMode m).radioEn = s.radioEn := rfl
@[simp] theorem State.setMode_ignDb (m : Mode) : (s.setMode m).ignDb = s.ignDb := rfl
@[simp] theorem State.setMode_ignCnt (m : Mode) : (s.setMode m).ignCnt = s.ignCnt := rfl
@[simp] theorem State.setMode_mbox (m : Mode) : (s.setMode m).mbox = s.mbox := rfl
@[simp] theorem State.setMode_halted (m : Mode) : (s.setMode m).halted = s.halted := rfl
@[simp] theorem State.setMode_trace (m : Mode) : (s.setMode m).trace = s.trace := rfl
@[simp] theorem State.setMode_resp (m : Mode) : (s.setMode m).resp = s.resp := rfl
@[simp] theorem State.setMode_cfg (m : Mode) : (s.setMode m).cfg = s.cfg := rfl
@[simp] theorem State.setMode_cmds (m : Mode) : (s.setMode m).cmds = s.cmds := rfl
@[simp] theorem State.setMode_afeIn (m : Mode) : (s.setMode m).afeIn = s.afeIn := rfl
@[simp] theorem State.setMode_adcIn (m : Mode) : (s.setMode m).adcIn = s.adcIn := rfl
@[simp] theorem State.setMode_draws (m : Mode) : (s.setMode m).draws = s.draws := rfl
@[simp] theorem State.setMode_pack (m : Mode) (q : Pack) : (s.setMode m).pack q = s.pack q := by cases q <;> rfl
@[simp] theorem State.setMode_mask (m : Mode) (q : Pack) : (s.setMode m).mask q = s.mask q := by cases q <;> rfl
@[simp] theorem State.setMode_cell (m : Mode) (q : Pack) (i : Nat) : (s.setMode m).cell q i = s.cell q i := by cases q <;> rfl
@[simp] theorem State.setMode_tot (m : Mode) (q : Pack) : (s.setMode m).tot q = s.tot q := by cases q <;> rfl

/-! taken. -/

@[simp] theorem State.taken_mode : (s.taken).mode = s.mode := rfl
@[simp] theorem State.taken_pack0 : (s.taken).pack0 = s.pack0 := rfl
@[simp] theorem State.taken_pack1 : (s.taken).pack1 = s.pack1 := rfl
@[simp] theorem State.taken_radioEn : (s.taken).radioEn = s.radioEn := rfl
@[simp] theorem State.taken_ignDb : (s.taken).ignDb = s.ignDb := rfl
@[simp] theorem State.taken_ignCnt : (s.taken).ignCnt = s.ignCnt := rfl
@[simp] theorem State.taken_mbox : (s.taken).mbox = s.mbox := rfl
@[simp] theorem State.taken_halted : (s.taken).halted = s.halted := rfl
@[simp] theorem State.taken_trace : (s.taken).trace = s.trace := rfl
@[simp] theorem State.taken_resp : (s.taken).resp = s.resp := rfl
@[simp] theorem State.taken_cfg : (s.taken).cfg = s.cfg := rfl
@[simp] theorem State.taken_cmds : (s.taken).cmds = s.cmds.tail := rfl
@[simp] theorem State.taken_afeIn : (s.taken).afeIn = s.afeIn := rfl
@[simp] theorem State.taken_adcIn : (s.taken).adcIn = s.adcIn := rfl
@[simp] theorem State.taken_draws : (s.taken).draws = s.draws := rfl
@[simp] theorem State.taken_pack (q : Pack) : (s.taken).pack q = s.pack q := by cases q <;> rfl
@[simp] theorem State.taken_mask (q : Pack) : (s.taken).mask q = s.mask q := by cases q <;> rfl
@[simp] theorem State.taken_cell (q : Pack) (i : Nat) : (s.taken).cell q i = s.cell q i := by cases q <;> rfl
@[simp] theorem State.taken_tot (q : Pack) : (s.taken).tot q = s.tot q := by cases q <;> rfl

/-! issue. -/

@[simp] theorem State.issue_mode (w : Word) : (s.issue w).mode = s.mode := rfl
@[simp] theorem State.issue_pack0 (w : Word) : (s.issue w).pack0 = s.pack0 := rfl
@[simp] theorem State.issue_pack1 (w : Word) : (s.issue w).pack1 = s.pack1 := rfl
@[simp] theorem State.issue_radioEn (w : Word) : (s.issue w).radioEn = s.radioEn := rfl
@[simp] theorem State.issue_ignDb (w : Word) : (s.issue w).ignDb = s.ignDb := rfl
@[simp] theorem State.issue_ignCnt (w : Word) : (s.issue w).ignCnt = s.ignCnt := rfl
@[simp] theorem State.issue_mbox (w : Word) : (s.issue w).mbox = s.mbox := rfl
@[simp] theorem State.issue_halted (w : Word) : (s.issue w).halted = s.halted := rfl
@[simp] theorem State.issue_trace (w : Word) : (s.issue w).trace = s.trace := rfl
@[simp] theorem State.issue_resp (w : Word) : (s.issue w).resp = s.resp := rfl
@[simp] theorem State.issue_cfg (w : Word) : (s.issue w).cfg = s.cfg := rfl
@[simp] theorem State.issue_cmds (w : Word) : (s.issue w).cmds = w :: s.cmds := rfl
@[simp] theorem State.issue_afeIn (w : Word) : (s.issue w).afeIn = s.afeIn := rfl
@[simp] theorem State.issue_adcIn (w : Word) : (s.issue w).adcIn = s.adcIn := rfl
@[simp] theorem State.issue_draws (w : Word) : (s.issue w).draws = s.draws := rfl
@[simp] theorem State.issue_pack (w : Word) (q : Pack) : (s.issue w).pack q = s.pack q := by cases q <;> rfl
@[simp] theorem State.issue_mask (w : Word) (q : Pack) : (s.issue w).mask q = s.mask q := by cases q <;> rfl
@[simp] theorem State.issue_cell (w : Word) (q : Pack) (i : Nat) : (s.issue w).cell q i = s.cell q i := by cases q <;> rfl
@[simp] theorem State.issue_tot (w : Word) (q : Pack) : (s.issue w).tot q = s.tot q := by cases q <;> rfl

/-! setPack. -/

@[simp] theorem State.setPack_mode (p : Pack) (q : PackState) : (s.setPack p q).mode = s.mode := by cases p <;> rfl
@[simp] theorem State.setPack_radioEn (p : Pack) (q : PackState) : (s.setPack p q).radioEn = s.radioEn := by cases p <;> rfl
@[simp] theorem State.setPack_ignDb (p : Pack) (q : PackState) : (s.setPack p q).ignDb = s.ignDb := by cases p <;> rfl
@[simp] theorem State.setPack_ignCnt (p : Pack) (q : PackState) : (s.setPack p q).ignCnt = s.ignCnt := by cases p <;> rfl
@[simp] theorem State.setPack_mbox (p : Pack) (q : PackState) : (s.setPack p q).mbox = s.mbox := by cases p <;> rfl
@[simp] theorem State.setPack_halted (p : Pack) (q : PackState) : (s.setPack p q).halted = s.halted := by cases p <;> rfl
@[simp] theorem State.setPack_trace (p : Pack) (q : PackState) : (s.setPack p q).trace = s.trace := by cases p <;> rfl
@[simp] theorem State.setPack_resp (p : Pack) (q : PackState) : (s.setPack p q).resp = s.resp := by cases p <;> rfl
@[simp] theorem State.setPack_cfg (p : Pack) (q : PackState) : (s.setPack p q).cfg = s.cfg := by cases p <;> rfl
@[simp] theorem State.setPack_cmds (p : Pack) (q : PackState) : (s.setPack p q).cmds = s.cmds := by cases p <;> rfl
@[simp] theorem State.setPack_afeIn (p : Pack) (q : PackState) : (s.setPack p q).afeIn = s.afeIn := by cases p <;> rfl
@[simp] theorem State.setPack_adcIn (p : Pack) (q : PackState) : (s.setPack p q).adcIn = s.adcIn := by cases p <;> rfl
@[simp] theorem State.setPack_draws (p : Pack) (q : PackState) : (s.setPack p q).draws = s.draws := by cases p <;> rfl

/-! setMask. -/

@[simp] theorem State.setMask_mode (p : Pack) (m : Mask) : (s.setMask p m).mode = s.mode := by cases p <;> rfl
@[simp] theorem State.setMask_radioEn (p : Pack) (m : Mask) : (s.setMask p m).radioEn = s.radioEn := by cases p <;> rfl
@[simp] theorem State.setMask_ignDb (p : Pack) (m : Mask) : (s.setMask p m).ignDb = s.ignDb := by cases p <;> rfl
@[simp] theorem State.setMask_ignCnt (p : Pack) (m : Mask) : (s.setMask p m).ignCnt = s.ignCnt := by cases p <;> rfl
@[simp] theorem State.setMask_mbox (p : Pack) (m : Mask) : (s.setMask p m).mbox = s.mbox := by cases p <;> rfl
@[simp] theorem State.setMask_halted (p : Pack) (m : Mask) : (s.setMask p m).halted = s.halted := by cases p <;> rfl
@[simp] theorem State.setMask_trace (p : Pack) (m : Mask) : (s.setMask p m).trace = s.trace := by cases p <;> rfl
@[simp] theorem State.setMask_resp (p : Pack) (m : Mask) : (s.setMask p m).resp = s.resp := by cases p <;> rfl
@[simp] theorem State.setMask_cfg (p : Pack) (m : Mask) : (s.setMask p m).cfg = s.cfg := by cases p <;> rfl
@[simp] theorem State.setMask_cmds (p : Pack) (m : Mask) : (s.setMask p m).cmds = s.cmds := by cases p <;> rfl
@[simp] theorem State.setMask_afeIn (p : Pack) (m : Mask) : (s.setMask p m).afeIn = s.afeIn := by cases p <;> rfl
@[simp] theorem State.setMask_adcIn (p : Pack) (m : Mask) : (s.setMask p m).adcIn = s.adcIn := by cases p <;> rfl
@[simp] theorem State.setMask_draws (p : Pack) (m : Mask) : (s.setMask p m).draws = s.draws := by cases p <;> rfl
theorem State.setMask_pack (p : Pack) (m : Mask) (q : Pack) :
    (s.setMask p m).pack q = if q = p then { s.pack p with mask := m } else s.pack q := by
  cases p <;> cases q <;> rfl
@[simp] theorem State.setMask_pack_same (p : Pack) (m : Mask) : (s.setMask p m).pack p = { s.pack p with mask := m } := by
  cases p <;> rfl
theorem State.setMask_pack_other (p : Pack) (m : Mask) {q : Pack} (h : q ≠ p) : (s.setMask p m).pack q = s.pack q := by
  simp [State.setMask_pack, h]

/-! setDiag. -/

@[simp] theorem State.setDiag_mode (p : Pack) (d : Bool) : (s.setDiag p d).mode = s.mode := by cases p <;> rfl
@[simp] theorem State.setDiag_radioEn (p : Pack) (d : Bool) : (s.setDiag p d).radioEn = s.radioEn := by cases p <;> rfl
@[simp] theorem State.setDiag_ignDb (p : Pack) (d : Bool) : (s.setDiag p d).ignDb = s.ignDb := by cases p <;> rfl
@[simp] theorem State.setDiag_ignCnt (p : Pack) (d : Bool) : (s.setDiag p d).ignCnt = s.ignCnt := by cases p <;> rfl
@[simp] theorem State.setDiag_mbox (p : Pack) (d : Bool) : (s.setDiag p d).mbox = s.mbox := by cases p <;> rfl
@[simp] theorem State.setDiag_halted (p : Pack) (d : Bool) : (s.setDiag p d).halted = s.halted := by cases p <;> rfl
@[simp] theorem State.setDiag_trace (p : Pack) (d : Bool) : (s.setDiag p d).trace = s.trace := by cases p <;> rfl
@[simp] theorem State.setDiag_resp (p : Pack) (d : Bool) : (s.setDiag p d).resp = s.resp := by cases p <;> rfl
@[simp] theorem State.setDiag_cfg (p : Pack) (d : Bool) : (s.setDiag p d).cfg = s.cfg := by cases p <;> rfl
@[simp] theorem State.setDiag_cmds (p : Pack) (d : Bool) : (s.setDiag p d).cmds = s.cmds := by cases p <;> rfl
@[simp] theorem State.setDiag_afeIn (p : Pack) (d : Bool) : (s.setDiag p d).afeIn = s.afeIn := by cases p <;> rfl
@[simp] theorem State.setDiag_adcIn (p : Pack) (d : Bool) : (s.setDiag p d).adcIn = s.adcIn := by cases p <;> rfl
@[simp] theorem State.setDiag_draws (p : Pack) (d : Bool) : (s.setDiag p d).draws = s.draws := by cases p <;> rfl
theorem State.setDiag_pack (p : Pack) (d : Bool) (q : Pack) :
    (s.setDiag p d).pack q = if q = p then { s.pack p with diag := d } else s.pack q := by
  cases p <;> cases q <;> rfl
@[simp] theorem State.setDiag_pack_same (p : Pack) (d : Bool) : (s.setDiag p d).pack p = { s.pack p with diag := d } := by
  cases p <;> rfl
theorem State.setDiag_pack_other (p : Pack) (d : Bool) {q : Pack} (h : q ≠ p) : (s.setDiag p d).pack q = s.pack q := by
  simp [State.setDiag_pack, h]

/-! setCell. -/

@[simp] theorem State.setCell_mode (p : Pack) (j : Nat) (b : Ring) : (s.setCell p j b).mode = s.mode := by cases p <;> rfl
@[simp] theorem State.setCell_radioEn (p : Pack) (j : Nat) (b : Ring) : (s.setCell p j b).radioEn = s.radioEn := by cases p <;> rfl
@[simp] theorem State.setCell_ignDb (p : Pack) (j : Nat) (b : Ring) : (s.setCell p j b).ignDb = s.ignDb := by cases p <;> rfl
@[simp] theorem State.setCell_ignCnt (p : Pack) (j : Nat) (b : Ring) : (s.setCell p j b).ignCnt = s.ignCnt := by cases p <;> rfl
@[simp] theorem State.setCell_mbox (p : Pack) (j : Nat) (b : Ring) : (s.setCell p j b).mbox = s.mbox := by cases p <;> rfl
@[simp] theorem State.setCell_halted (p : Pack) (j : Nat) (b : Ring) : (s.setCell p j b).halted = s.halted := by cases p <;> rfl
@[simp] theorem State.setCell_trace (p : Pack) (j : Nat) (b : Ring) : (s.setCell p j b).trace = s.trace := by cases p <;> rfl
@[simp] theorem State.setCell_resp (p : Pack) (j : Nat) (b : Ring) : (s.setCell p j b).resp = s.resp := by cases p <;> rfl
@[simp] theorem State.setCell_cfg (p : Pack) (j : Nat) (b : Ring) : (s.setCell p j b).cfg = s.cfg := by cases p <;> rfl
@[simp] theorem State.setCell_cmds (p : Pack) (j : Nat) (b : Ring) : (s.setCell p j b).cmds = s.cmds := by cases p <;> rfl
@[simp] theorem State.setCell_afeIn (p : Pack) (j : Nat) (b : Ring) : (s.setCell p j b).afeIn = s.afeIn := by cases p <;> rfl
@[simp] theorem State.setCell_adcIn (p : Pack) (j : Nat) (b : Ring) : (s.setCell p j b).adcIn = s.adcIn := by cases p <;> rfl
@[simp] theorem State.setCell_draws (p : Pack) (j : Nat) (b : Ring) : (s.setCell p j b).draws = s.draws := by cases p <;> rfl
theorem State.setCell_pack (p : Pack) (j : Nat) (b : Ring) (q : Pack) :
    (s.setCell p j b).pack q = if q = p then { s.pack p with buf := (s.pack p).buf.set j b } else s.pack q := by
  cases p <;> cases q <;> rfl
@[simp] theorem State.setCell_pack_same (p : Pack) (j : Nat) (b : Ring) : (s.setCell p j b).pack p = { s.pack p with buf := (s.pack p).buf.set j b } := by
  cases p <;> rfl
theorem State.setCell_pack_other (p : Pack) (j : Nat) (b : Ring) {q : Pack} (h : q ≠ p) : (s.setCell p j b).pack q = s.pack q := by
  simp [State.setCell_pack, h]

/-! setTot. -/

@[simp] theorem State.setTot_mode (p : Pack) (b : Ring) : (s.setTot p b).mode = s.mode := by cases p <;> rfl
@[simp] theorem State.setTot_radioEn (p : Pack) (b : Ring) : (s.setTot p b).radioEn = s.radioEn := by cases p <;> rfl
@[simp] theorem State.setTot_ignDb (p : Pack) (b : Ring) : (s.setTot p b).ignDb = s.ignDb := by cases p <;> rfl
@[simp] theorem State.setTot_ignCnt (p : Pack) (b : Ring) : (s.setTot p b).ignCnt = s.ignCnt := by cases p <;> rfl
@[simp] theorem State.setTot_mbox (p : Pack) (b : Ring) : (s.setTot p b).mbox = s.mbox := by cases p <;> rfl
@[simp] theorem State.setTot_halted (p : Pack) (b : Ring) : (s.setTot p b).halted = s.halted := by cases p <;> rfl
@[simp] theorem State.setTot_trace (p : Pack) (b : Ring) : (s.setTot p b).trace = s.trace := by cases p <;> rfl
@[simp] theorem State.setTot_resp (p : Pack) (b : Ring) : (s.setTot p b).resp = s.resp := by cases p <;> rfl
@[simp] theorem State.setTot_cfg (p : Pack) (b : Ring) : (s.setTot p b).cfg = s.cfg := by cases p <;> rfl
@[simp] theorem State.setTot_cmds (p : Pack) (b : Ring) : (s.setTot p b).cmds = s.cmds := by cases p <;> rfl
@[simp] theorem State.setTot_afeIn (p : Pack) (b : Ring) : (s.setTot p b).afeIn = s.afeIn := by cases p <;> rfl
@[simp] theorem State.setTot_adcIn (p : Pack) (b : Ring) : (s.setTot p b).adcIn = s.adcIn := by cases p <;> rfl
@[simp] theorem State.setTot_draws (p : Pack) (b : Ring) : (s.setTot p b).draws = s.draws := by cases p <;> rfl
theorem State.setTot_pack (p : Pack) (b : Ring) (q : Pack) :
    (s.setTot p b).pack q = if q = p then { s.pack p with tot := b } else s.pack q := by
  cases p <;> cases q <;> rfl
@[simp] theorem State.setTot_pack_same (p : Pack) (b : Ring) : (s.setTot p b).pack p = { s.pack p with tot := b } := by
  cases p <;> rfl
theorem State.setTot_pack_other (p : Pack) (b : Ring) {q : Pack} (h : q ≠ p) : (s.setTot p b).pack q = s.pack q := by
  simp [State.setTot_pack, h]

/-! pushCell. -/

@[simp] theorem State.pushCell_mode (p : Pack) (j : Nat) (x : Int) : (s.pushCell p j x).mode = s.mode := by cases p <;> rfl
@[simp] theorem State.pushCell_radioEn (p : Pack) (j : Nat) (x : Int) : (s.pushCell p j x).radioEn = s.radioEn := by cases p <;> rfl
@[simp] theorem State.pushCell_ignDb (p : Pack) (j : Nat) (x : Int) : (s.pushCell p j x).ignDb = s.ignDb := by cases p <;> rfl
@[simp] theorem State.pushCell_ignCnt (p : Pack) (j : Nat) (x : Int) : (s.pushCell p j x).ignCnt = s.ignCnt := by cases p <;> rfl
@[simp] theorem State.pushCell_mbox (p : Pack) (j : Nat) (x : Int) : (s.pushCell p j x).mbox = s.mbox := by cases p <;> rfl
@[simp] theorem State.pushCell_halted (p : Pack) (j : Nat) (x : Int) : (s.pushCell p j x).halted = s.halted := by cases p <;> rfl
@[simp] theorem State.pushCell_trace (p : Pack) (j : Nat) (x : Int) : (s.pushCell p j x).trace = s.trace := by cases p <;> rfl
@[simp] theorem State.pushCell_resp (p : Pack) (j : Nat) (x : Int) : (s.pushCell p j x).resp = s.resp := by cases p <;> rfl
@[simp] theorem State.pushCell_cfg (p : Pack) (j : Nat) (x : Int) : (s.pushCell p j x).cfg = s.cfg := by cases p <;> rfl
@[simp] theorem State.pushCell_cmds (p : Pack) (j : Nat) (x : Int) : (s.pushCell p j x).cmds = s.cmds := by cases p <;> rfl
@[simp] theorem State.pushCell_afeIn (p : Pack) (j : Nat) (x : Int) : (s.pushCell p j x).afeIn = s.afeIn := by cases p <;> rfl
@[simp] theorem State.pushCell_adcIn (p : Pack) (j : Nat) (x : Int) : (s.pushCell p j x).adcIn = s.adcIn := by cases p <;> rfl
@[simp] theorem State.pushCell_draws (p : Pack) (j : Nat) (x : Int) : (s.pushCell p j x).draws = s.draws := by cases p <;> rfl
theorem State.pushCell_pack (p : Pack) (j : Nat) (x : Int) (q : Pack) :
    (s.pushCell p j x).pack q = if q = p then { s.pack p with buf := (s.pack p).buf.set j ((s.cell p j).push x) } else s.pack q := by
  cases p <;> cases q <;> rfl
@[simp] theorem State.pushCell_pack_same (p : Pack) (j : Nat) (x : Int) : (s.pushCell p j x).pack p = { s.pack p with buf := (s.pack p).buf.set j ((s.cell p j).push x) } := by
  cases p <;> rfl
theorem State.pushCell_pack_other (p : Pack) (j : Nat) (x : Int) {q : Pack} (h : q ≠ p) : (s.pushCell p j x).pack q = s.pack q := by
  simp [State.pushCell_pack, h]

/-! pushTot. -/

@[simp] theorem State.pushTot_mode (p : Pack) (x : Int) : (s.pushTot p x).mode = s.mode := by cases p <;> rfl
@[simp] theorem State.pushTot_radioEn (p : Pack) (x : Int) : (s.pushTot p x).radioEn = s.radioEn := by cases p <;> rfl
@[simp] theorem State.pushTot_ignDb (p : Pack) (x : Int) : (s.pushTot p x).ignDb = s.ignDb := by cases p <;> rfl
@[simp] theorem State.pushTot_ignCnt (p : Pack) (x : Int) : (s.pushTot p x).ignCnt = s.ignCnt := by cases p <;> rfl
@[simp] theorem State.pushTot_mbox (p : Pack) (x : Int) : (s.pushTot p x).mbox = s.mbox := by cases p <;> rfl
@[simp] theorem State.pushTot_halted (p : Pack) (x : Int) : (s.pushTot p x).halted = s.halted := by cases p <;> rfl
@[simp] theorem State.pushTot_trace (p : Pack) (x : Int) : (s.pushTot p x).trace = s.trace := by cases p <;> rfl
@[simp] theorem State.pushTot_resp (p : Pack) (x : Int) : (s.pushTot p x).resp = s.resp := by cases p <;> rfl
@[simp] theorem State.pushTot_cfg (p : Pack) (x : Int) : (s.pushTot p x).cfg = s.cfg := by cases p <;> rfl
@[simp] theorem State.pushTot_cmds (p : Pack) (x : Int) : (s.pushTot p x).cmds = s.cmds := by cases p <;> rfl
@[simp] theorem State.pushTot_afeIn (p : Pack) (x : Int) : (s.pushTot p x).afeIn = s.afeIn := by cases p <;> rfl
@[simp] theorem State.pushTot_adcIn (p : Pack) (x : Int) : (s.pushTot p x).adcIn = s.adcIn := by cases p <;> rfl
@[simp] theorem State.pushTot_draws (p : Pack) (x : Int) : (s.pushTot p x).draws = s.draws := by cases p <;> rfl
theorem State.pushTot_pack (p : Pack) (x : Int) (q : Pack) :
    (s.pushTot p x).pack q = if q = p then { s.pack p with tot := (s.tot p).push x } else s.pack q := by
  cases p <;> cases q <;> rfl
@[simp] theorem State.pushTot_pack_same (p : Pack) (x : Int) : (s.pushTot p x).pack p = { s.pack p with tot := (s.tot p).push x } := by
  cases p <;> rfl
theorem State.pushTot_pack_other (p : Pack) (x : Int) {q : Pack} (h : q ≠ p) : (s.pushTot p x).pack q = s.pack q := by
  simp [State.pushTot_pack, h]

/-! setLine. -/

@[simp] theorem State.setLine_mode (p : Pack) (v : Bool) : (s.setLine p v).mode = s.mode := by cases p <;> rfl
@[simp] theorem State.setLine_radioEn (p : Pack) (v : Bool) : (s.setLine p v).radioEn = s.radioEn := by cases p <;> rfl
@[simp] theorem State.setLine_ignDb (p : Pack) (v : Bool) : (s.setLine p v).ignDb = s.ignDb := by cases p <;> rfl
@[simp] theorem State.setLine_ignCnt (p : Pack) (v : Bool) : (s.setLine p v).ignCnt = s.ignCnt := by cases p <;> rfl
@[simp] theorem State.setLine_mbox (p : Pack) (v : Bool) : (s.setLine p v).mbox = s.mbox := by cases p <;> rfl
@[simp] theorem State.setLine_halted (p : Pack) (v : Bool) : (s.setLine p v).halted = s.halted := by cases p <;> rfl
@[simp] theorem State.setLine_trace (p : Pack) (v : Bool) : (s.setLine p v).trace = s.trace ++ [.en p v] := by cases p <;> rfl
@[simp] theorem State.setLine_resp (p : Pack) (v : Bool) : (s.setLine p v).resp = s.resp := by cases p <;> rfl
@[simp] theorem State.setLine_cfg (p : Pack) (v : Bool) : (s.setLine p v).cfg = s.cfg := by cases p <;> rfl
@[simp] theorem State.setLine_cmds (p : Pack) (v : Bool) : (s.setLine p v).cmds = s.cmds := by cases p <;> rfl
@[simp] theorem State.setLine_afeIn (p : Pack) (v : Bool) : (s.setLine p v).afeIn = s.afeIn := by cases p <;> rfl
@[simp] theorem State.setLine_adcIn (p : Pack) (v : Bool) : (s.setLine p v).adcIn = s.adcIn := by cases p <;> rfl
@[simp] theorem State.setLine_draws (p : Pack) (v : Bool) : (s.setLine p v).draws = s.draws := by cases p <;> rfl
theorem State.setLine_pack (p : Pack) (v : Bool) (q : Pack) :
    (s.setLine p v).pack q = if q = p then { s.pack p with enable := v } else s.pack q := by
  cases p <;> cases q <;> rfl
@[simp] theorem State.setLine_pack_same (p : Pack) (v : Bool) : (s.setLine p v).pack p = { s.pack p with enable := v } := by
  cases p <;> rfl
theorem State.setLine_pack_other (p : Pack) (v : Bool) {q : Pack} (h : q ≠ p) : (s.setLine p v).pack q = s.pack q := by
  simp [State.setLine_pack, h]

/-! debounce. -/

@[simp] theorem State.debounce_mode (x : Bool) : (s.debounce x).mode = s.mode := by
  unfold State.debounce; split
  · rfl
  · split <;> rfl
@[simp] theorem State.debounce_pack0 (x : Bool) : (s.debounce x).pack0 = s.pack0 := by
  unfold State.debounce; split
  · rfl
  · split <;> rfl
@[simp] theorem State.debounce_pack1 (x : Bool) : (s.debounce x).pack1 = s.pack1 := by
  unfold State.debounce; split
  · rfl
  · split <;> rfl
@[simp] theorem State.debounce_radioEn (x : Bool) : (s.debounce x).radioEn = s.radioEn := by
  unfold State.debounce; split
  · rfl
  · split <;> rfl
@[simp] theorem State.debounce_mbox (x : Bool) : (s.debounce x).mbox = s.mbox := by
  unfold State.debounce; split
  · rfl
  · split <;> rfl
@[simp] theorem State.debounce_halted (x : Bool) : (s.debounce x).halted = s.halted := by
  unfold State.debounce; split
  · rfl
  · split <;> rfl
@[simp] theorem State.debounce_trace (x : Bool) : (s.debounce x).trace = s.trace := by
  unfold State.debounce; split
  · rfl
  · split <;> rfl
@[simp] theorem State.debounce_resp (x : Bool) : (s.debounce x).resp = s.resp := by
  unfold State.debounce; split
  · rfl
  · split <;> rfl
@[simp] theorem State.debounce_cfg (x : Bool) : (s.debounce x).cfg = s.cfg := by
  unfold State.debounce; split
  · rfl
  · split <;> rfl
@[simp] theorem State.debounce_cmds (x : Bool) : (s.debounce x).cmds = s.cmds := by
  unfold State.debounce; split
  · rfl
  · split <;> rfl
@[simp] theorem State.debounce_afeIn (x : Bool) : (s.debounce x).afeIn = s.afeIn := by
  unfold State.debounce; split
  · rfl
  · split <;> rfl
@[simp] theorem State.debounce_adcIn (x : Bool) : (s.debounce x).adcIn = s.adcIn := by
  unfold State.debounce; split
  · rfl
  · split <;> rfl
@[simp] theorem State.debounce_draws (x : Bool) : (s.debounce x).draws = s.draws := by
  unfold State.debounce; split
  · rfl
  · split <;> rfl
@[simp] theorem State.debounce_pack (x : Bool) (q : Pack) : (s.debounce x).pack q = s.pack q := by cases q <;> simp

/-! Reading through the pack accessors. -/

theorem State.mask_eq (p : Pack) : s.mask p = (s.pack p).mask := rfl
theorem State.tot_eq (p : Pack) : s.tot p = (s.pack p).tot := rfl
theorem State.cell_eq (p : Pack) (j : Nat) : s.cell p j = (s.pack p).buf.getD j Ring.empty := rfl

/-- A cell buffer after a write of a cell buffer. -/
theorem State.setCell_cell (p q : Pack) (j i : Nat) (b : Ring) :
    (s.setCell p j b).cell q i = if q = p ∧ i = j ∧ j < (s.pack p).buf.length then b else s.cell q i := by
  rw [State.cell_eq, State.setCell_pack]
  split
  · rename_i h
    subst h
    simp only [List.getD_eq_getElem?_getD, List.getElem?_set, State.cell_eq, true_and]
    split
    · rename_i h; subst h
      split
      · rename_i h; simp [h]
      · rename_i h; simp [h]
    · rename_i h
      have : ¬ (i = j ∧ j < (s.pack q).buf.length) := fun x => h x.1.symm
      simp [this]
  · rename_i h
    simp [h, State.cell_eq]

@[simp] theorem State.setCell_buf_length (p q : Pack) (j : Nat) (b : Ring) :
    ((s.setCell p j b).pack q).buf.length = (s.pack q).buf.length := by
  cases p <;> cases q <;> simp [State.setCell, State.setPack, State.pack]

end Sys2Proof.Machine
end

