-- ==== Sys2Proof/Laws/Ops.lean ====
section
/-! SUPPORT. For each shared operation, once, what it can do: checks, the transition function and its procedures, the mailbox, the acquisition, and one step. -/

namespace Sys2Proof.Machine

open Sys2Proof

variable (s : State)

/-! The checks. -/

theorem State.unlessHalted_running (body : State → State) (h : s.halted = false) : s.unlessHalted body = body s := by
  simp [State.unlessHalted, h]

theorem State.unlessHalted_halted (body : State → State) (h : s.halted = true) :
    s.unlessHalted body = s.refuse .halted := by
  simp [State.unlessHalted, h]

theorem State.withCellArg_inside (j : Nat) (body : State → State) (h : j < s.cfg.numCells) :
    s.withCellArg j body = body s := by
  simp [State.withCellArg, Nat.not_le.mpr h]

theorem State.withCellArg_beyond (j : Nat) (body : State → State) (h : s.cfg.numCells ≤ j) :
    s.withCellArg j body = s.refuse .badArg := by
  simp [State.withCellArg, h]

theorem State.unlessStandby_awake (body : State → State) (h : s.mode ≠ .standby) : s.unlessStandby body = body s := by
  simp [State.unlessStandby, h]

theorem State.unlessStandby_standby (body : State → State) (h : s.mode = .standby) :
    s.unlessStandby body = s.refuse .badMode := by
  simp [State.unlessStandby, h]

theorem State.onlyCharging_charging (body : State → State) (h : s.mode = .charging) : s.onlyCharging body = body s := by
  simp [State.onlyCharging, h]

theorem State.onlyCharging_other (body : State → State) (h : s.mode ≠ .charging) :
    s.onlyCharging body = s.refuse .badMode := by
  simp [State.onlyCharging, h]

/-! The mode controller. -/

/-- What one evaluation of the transition function can do: nothing, one WAKE, or one SLEEP. -/
theorem State.trans_cases (ign cp : Bool) :
    s.trans ign cp = s ∨
      (s.mode = .standby ∧ ∃ m, m ≠ .standby ∧ (s.trans ign cp) = (s.setMode m).wake) ∨
      (s.mode ≠ .standby ∧ (s.trans ign cp) = (s.setMode .standby).sleep) := by
  cases h : s.mode <;> cases ign <;> cases cp <;> simp [State.trans, h] <;>
    first
      | exact .inr ⟨.charging, by decide, rfl⟩
      | exact .inr ⟨.driving, by decide, rfl⟩

/-- What one poll of the debouncer can do (R190). -/
theorem State.debounce_cases (x : Bool) :
    (x = s.ignDb ∧ s.debounce x = { s with ignCnt := 0 }) ∨
      (x ≠ s.ignDb ∧ s.cfg.ignDebounceN ≤ s.ignCnt + 1 ∧ s.debounce x = { s with ignDb := x, ignCnt := 0 }) ∨
      (x ≠ s.ignDb ∧ s.ignCnt + 1 < s.cfg.ignDebounceN ∧ s.debounce x = { s with ignCnt := s.ignCnt + 1 }) := by
  unfold State.debounce
  by_cases h : x = s.ignDb
  · exact .inl ⟨h, by simp [h]⟩
  · by_cases h' : s.cfg.ignDebounceN ≤ s.ignCnt + 1
    · exact .inr (.inl ⟨h, h', by simp [h, h']⟩)
    · exact .inr (.inr ⟨h, Nat.not_le.mp h', by simp [h, h']⟩)

/-- What draining the mailbox does (R214). -/
theorem State.drainMailbox_cases :
    (s.mbox = none ∧ s.drainMailbox = s) ∨
      ∃ v, s.mbox = some v ∧ s.drainMailbox = State.trans { s with mbox := none } s.ignDb v := by
  cases h : s.mbox with
  | none => exact .inl ⟨rfl, by simp [State.drainMailbox, h]⟩
  | some v => exact .inr ⟨v, rfl, by simp [State.drainMailbox, h]⟩

/-! The procedures, register by register (R194, R195). -/

@[simp] theorem State.wake_mode : s.wake.mode = s.mode := rfl
@[simp] theorem State.wake_pack (p : Pack) : s.wake.pack p = { s.pack p with mask := 0, enable := true } := by cases p <;> rfl
@[simp] theorem State.wake_radioEn : s.wake.radioEn = true := rfl
@[simp] theorem State.wake_ignDb : s.wake.ignDb = s.ignDb := rfl
@[simp] theorem State.wake_ignCnt : s.wake.ignCnt = s.ignCnt := rfl
@[simp] theorem State.wake_mbox : s.wake.mbox = s.mbox := rfl
@[simp] theorem State.wake_halted : s.wake.halted = s.halted := rfl
@[simp] theorem State.wake_resp : s.wake.resp = s.resp := rfl
@[simp] theorem State.wake_cfg : s.wake.cfg = s.cfg := rfl
@[simp] theorem State.wake_cmds : s.wake.cmds = s.cmds := rfl
@[simp] theorem State.wake_adcIn : s.wake.adcIn = s.adcIn := rfl
@[simp] theorem State.sleep_mode : s.sleep.mode = s.mode := rfl
@[simp] theorem State.sleep_pack (p : Pack) : s.sleep.pack p = { s.pack p with enable := false } := by cases p <;> rfl
@[simp] theorem State.sleep_radioEn : s.sleep.radioEn = false := rfl
@[simp] theorem State.sleep_ignDb : s.sleep.ignDb = s.ignDb := rfl
@[simp] theorem State.sleep_ignCnt : s.sleep.ignCnt = s.ignCnt := rfl
@[simp] theorem State.sleep_mbox : s.sleep.mbox = s.mbox := rfl
@[simp] theorem State.sleep_halted : s.sleep.halted = s.halted := rfl
@[simp] theorem State.sleep_resp : s.sleep.resp = s.resp := rfl
@[simp] theorem State.sleep_cfg : s.sleep.cfg = s.cfg := rfl
@[simp] theorem State.sleep_cmds : s.sleep.cmds = s.cmds := rfl
@[simp] theorem State.sleep_adcIn : s.sleep.adcIn = s.adcIn := rfl

/-- The registers no transition touches. -/
theorem State.trans_frame (ign cp : Bool) :
    (s.trans ign cp).ignDb = s.ignDb ∧ (s.trans ign cp).ignCnt = s.ignCnt ∧ (s.trans ign cp).mbox = s.mbox ∧
      (s.trans ign cp).halted = s.halted ∧ (s.trans ign cp).resp = s.resp ∧ (s.trans ign cp).cfg = s.cfg ∧
      (s.trans ign cp).cmds = s.cmds ∧ (s.trans ign cp).adcIn = s.adcIn ∧
      ∀ p, ((s.trans ign cp).pack p).buf = (s.pack p).buf ∧ ((s.trans ign cp).pack p).tot = (s.pack p).tot ∧
        ((s.trans ign cp).pack p).diag = (s.pack p).diag := by
  rcases s.trans_cases ign cp with h | ⟨-, m, -, h⟩ | ⟨-, h⟩ <;> rw [h] <;> simp

/-! The acquisition. -/

/-- The registers of the state that no part of an acquisition of pack p touches. -/
def State.sameButPack (s t : State) (p : Pack) : Prop :=
  t.mode = s.mode ∧ t.radioEn = s.radioEn ∧ t.ignDb = s.ignDb ∧ t.ignCnt = s.ignCnt ∧ t.mbox = s.mbox ∧
    t.halted = s.halted ∧ t.resp = s.resp ∧ t.cfg = s.cfg ∧ t.cmds = s.cmds ∧
    (∀ q, q ≠ p → t.pack q = s.pack q) ∧
    (t.pack p).mask = (s.pack p).mask ∧ (t.pack p).enable = (s.pack p).enable ∧
    (t.pack p).buf.length = (s.pack p).buf.length

theorem State.sameButPack_refl (p : Pack) : s.sameButPack s p := by simp [State.sameButPack]

theorem State.sameButPack_trans {s t u : State} {p : Pack} (h : s.sameButPack t p) (h' : t.sameButPack u p) :
    s.sameButPack u p := by
  obtain ⟨a1, a2, a3, a4, a5, a6, a7, a8, a9, a10, a11, a12, a13⟩ := h
  obtain ⟨b1, b2, b3, b4, b5, b6, b7, b8, b9, b10, b11, b12, b13⟩ := h'
  exact ⟨b1.trans a1, b2.trans a2, b3.trans a3, b4.trans a4, b5.trans a5, b6.trans a6, b7.trans a7, b8.trans a8,
    b9.trans a9, fun q hq => (b10 q hq).trans (a10 q hq), b11.trans a11, b12.trans a12, b13.trans a13⟩

/-- One cell of an acquisition, the state's part. -/
theorem acqCell_sameButPack (p : Pack) (m : Mask) (a : AcqProgress) (j : Nat) :
    a.st.sameButPack (acqCell p m a j).st p := by
  refine ⟨?_, ?_, ?_, ?_, ?_, ?_, ?_, ?_, ?_, ?_, ?_, ?_, ?_⟩ <;> try simp [acqCell]
  intro q hq
  simp [State.pushCell_pack_other, hq]

/-- Any run of cells of an acquisition. -/
theorem acqCells_sameButPack (p : Pack) (m : Mask) (js : List Nat) (a : AcqProgress) :
    a.st.sameButPack (js.foldl (acqCell p m) a).st p := by
  induction js generalizing a with
  | nil => exact State.sameButPack_refl _ _
  | cons j js ih => exact State.sameButPack_trans (acqCell_sameButPack p m a j) (ih _)

/-- The end of an acquisition. -/
theorem acqFinish_sameButPack (p : Pack) (m : Mask) (a : AcqProgress) : a.st.sameButPack (acqFinish p m a) p := by
  cases h : a.diag <;> cases h' : a.st.cfg.totalSource <;>
    (refine ⟨?_, ?_, ?_, ?_, ?_, ?_, ?_, ?_, ?_, ?_, ?_, ?_, ?_⟩ <;> simp [acqFinish, h, h']
     intro q hq
     simp [State.setDiag_pack_other, State.pushTot_pack_other, hq])

/-- What a whole acquisition leaves unchanged (R128). -/
theorem State.acquire_sameButPack (p : Pack) : s.sameButPack (s.acquire p) p := by
  have h0 : s.sameButPack (acqSample s p (s.mask p)).st p := by
    refine ⟨?_, ?_, ?_, ?_, ?_, ?_, ?_, ?_, ?_, ?_, ?_, ?_, ?_⟩ <;> simp [acqSample]
  exact State.sameButPack_trans h0 (State.sameButPack_trans (acqCells_sameButPack _ _ _ _) (acqFinish_sameButPack _ _ _))

/-! One step. -/

/-- What one step can be: an idle wait, an ILLEGAL word, or one command. -/
theorem step_cases :
    (s.cmds = [] ∧ step s = .next s) ∨
      (∃ w rest e, s.cmds = w :: rest ∧ decode w = .error e ∧ step s = .next s.answerIllegal) ∨
      ∃ w rest i, s.cmds = w :: rest ∧ decode w = .ok i ∧ step s = exec i s.taken := by
  cases h : s.cmds with
  | nil => exact .inl ⟨rfl, by simp [step, State.fetched, h]⟩
  | cons w rest =>
    cases h' : decode w with
    | error e => exact .inr (.inl ⟨w, rest, e, rfl, h', by simp [step, State.fetched, h, h']⟩)
    | ok i => exact .inr (.inr ⟨w, rest, i, rfl, h', by simp [step, State.fetched, h, h']⟩)

end Sys2Proof.Machine
end

