-- ==== Sys2Proof/Laws/PerInstr.lean ====
section
/-! SUPPORT. The family EncodesInItsRow: an instruction has a command word exactly if it is a command, and that word matches the instruction's own row of the opcode table (30_encoding.md R80). -/

namespace Sys2Proof.Laws

open Sys2Proof

/-- The instruction's word, if it has one, matches the mask and match of the table row with the instruction's mnemonic. -/
def EncodesInItsRow.Statement (i : Instr) : Prop :=
  (encode i).isSome = i.isCommand ∧
    ∀ w, encode i = some w → ∃ r ∈ commandTable, r.1 = i.mnemonic ∧ w &&& r.2.2 = r.2.1

/-- The bits of a packed word, field by field. -/
theorem packWord_getLsbD (op : BitVec 4) (p : Pack) (low : BitVec 24) (k : Nat) :
    (packWord op p low).getLsbD k =
      if k < 24 then low.getLsbD k
      else if k < 25 then (packBit p).getLsbD (k - 24)
      else if k < 28 then false
      else op.getLsbD (k - 28) := by
  unfold packWord
  rw [BitVec.getLsbD_append]
  split
  · rfl
  · rw [BitVec.getLsbD_append]
    split
    · rw [if_pos (by omega)]
    · rw [if_neg (by omega), BitVec.getLsbD_append]
      split
      · rw [if_pos (by omega)]; simp
      · rw [if_neg (by omega)]
        congr 1

/-- A packed word matches a row whose mask leaves p free, covers w[31:25] and on w[23:0] is `m`, when the opcode and the low
bits do. -/
theorem packWord_and (op : BitVec 4) (p : Pack) (low m v : BitVec 24) (h : low &&& m = v) :
    packWord op p low &&& ((0x7F#7 ++ 0#1) ++ m) = packWord op .p0 v := by
  apply BitVec.eq_of_getLsbD_eq
  intro k hk
  rw [BitVec.getLsbD_and, packWord_getLsbD, packWord_getLsbD, ← h, BitVec.getLsbD_and, BitVec.getLsbD_append]
  by_cases h24 : k < 24
  · simp [h24]
  · have : k = 24 ∨ k = 25 ∨ k = 26 ∨ k = 27 ∨ k = 28 ∨ k = 29 ∨ k = 30 ∨ k = 31 := by omega
    rcases this with rfl | rfl | rfl | rfl | rfl | rfl | rfl | rfl <;> simp [packBit]

/-- The reserved field w[19:16] of PUSH is 0 (R71). -/
theorem low_push (j : BitVec 4) (code : BitVec 16) : (j ++ 0#4 ++ code) &&& 0x0F0000#24 = 0#24 := by
  refine (BitVec.and_append (x₁ := j ++ 0#4) (x₂ := 0#4 ++ 0xF#4) (y₂ := 0#16)).trans ?_
  rw [BitVec.and_zero, BitVec.and_append, BitVec.and_zero, BitVec.zero_and]
  rfl

/-- The reserved field w[23:20] of PUSHT is 0 (R71). -/
theorem low_pusht (tot : BitVec 20) : (0#4 ++ tot) &&& 0xF00000#24 = 0#24 := by
  refine (BitVec.and_append (x₁ := 0#4) (x₂ := 0xF#4) (y₂ := 0#20)).trans ?_
  rw [BitVec.and_zero, BitVec.zero_and]
  rfl

/-- The reserved field w[19:0] of AVG is 0 (R71). -/
theorem low_avg (j : BitVec 4) : (j ++ 0#20) &&& 0x0FFFFF#24 = 0#24 := by
  refine (BitVec.and_append (y₁ := 0#20) (x₂ := 0#4) (y₂ := 0xFFFFF#20)).trans ?_
  rw [BitVec.and_zero, BitVec.zero_and]
  rfl

theorem EncodesInItsRow.xfer3 (p : Pack) (b0 : Byte) (b1 : Byte) (b2 : Byte) : EncodesInItsRow.Statement (.xfer3 p b0 b1 b2) := by
  refine ⟨rfl, fun w h => ⟨commandTable[0], List.getElem_mem _, rfl, ?_⟩⟩
  cases h
  exact packWord_and _ _ _ 0#24 0#24 (BitVec.and_zero)

theorem EncodesInItsRow.seten (p : Pack) (v : Bool) : EncodesInItsRow.Statement (.seten p v) := by
  refine ⟨rfl, fun w h => ⟨commandTable[1], List.getElem_mem _, rfl, ?_⟩⟩
  cases h
  cases p <;> cases v <;> decide

theorem EncodesInItsRow.acq (p : Pack) : EncodesInItsRow.Statement (.acq p) := by
  refine ⟨rfl, fun w h => ⟨commandTable[2], List.getElem_mem _, rfl, ?_⟩⟩
  cases h
  cases p <;> decide

theorem EncodesInItsRow.push (p : Pack) (j : Nat) (code : Int) : EncodesInItsRow.Statement (.push p j code) := by
  refine ⟨rfl, fun w h => ⟨commandTable[3], List.getElem_mem _, rfl, ?_⟩⟩
  cases h
  exact packWord_and _ _ _ 0x0F0000#24 0#24 (low_push _ _)

theorem EncodesInItsRow.pusht (p : Pack) (tot : Int) : EncodesInItsRow.Statement (.pusht p tot) := by
  refine ⟨rfl, fun w h => ⟨commandTable[4], List.getElem_mem _, rfl, ?_⟩⟩
  cases h
  exact packWord_and _ _ _ 0xF00000#24 0#24 (low_pusht _)

theorem EncodesInItsRow.avg (p : Pack) (j : Nat) : EncodesInItsRow.Statement (.avg p j) := by
  refine ⟨rfl, fun w h => ⟨commandTable[5], List.getElem_mem _, rfl, ?_⟩⟩
  cases h
  exact packWord_and _ _ _ 0x0FFFFF#24 0#24 (low_avg _)

theorem EncodesInItsRow.avgt (p : Pack) : EncodesInItsRow.Statement (.avgt p) := by
  refine ⟨rfl, fun w h => ⟨commandTable[6], List.getElem_mem _, rfl, ?_⟩⟩
  cases h
  cases p <;> decide

theorem EncodesInItsRow.ovq : EncodesInItsRow.Statement (.ovq) := by
  exact ⟨rfl, fun w h => ⟨commandTable[7], List.getElem_mem _, rfl, by cases h; decide⟩⟩

theorem EncodesInItsRow.uvq : EncodesInItsRow.Statement (.uvq) := by
  exact ⟨rfl, fun w h => ⟨commandTable[8], List.getElem_mem _, rfl, by cases h; decide⟩⟩

theorem EncodesInItsRow.balq : EncodesInItsRow.Statement (.balq) := by
  exact ⟨rfl, fun w h => ⟨commandTable[9], List.getElem_mem _, rfl, by cases h; decide⟩⟩

theorem EncodesInItsRow.otq : EncodesInItsRow.Statement (.otq) := by
  exact ⟨rfl, fun w h => ⟨commandTable[10], List.getElem_mem _, rfl, by cases h; decide⟩⟩

theorem EncodesInItsRow.statq : EncodesInItsRow.Statement (.statq) := by
  exact ⟨rfl, fun w h => ⟨commandTable[11], List.getElem_mem _, rfl, by cases h; decide⟩⟩

theorem EncodesInItsRow.fltq : EncodesInItsRow.Statement (.fltq) := by
  exact ⟨rfl, fun w h => ⟨commandTable[12], List.getElem_mem _, rfl, by cases h; decide⟩⟩

theorem EncodesInItsRow.diagq (p : Pack) : EncodesInItsRow.Statement (.diagq p) := by
  refine ⟨rfl, fun w h => ⟨commandTable[13], List.getElem_mem _, rfl, ?_⟩⟩
  cases h
  cases p <;> decide

theorem EncodesInItsRow.modeq : EncodesInItsRow.Statement (.modeq) := by
  exact ⟨rfl, fun w h => ⟨commandTable[14], List.getElem_mem _, rfl, by cases h; decide⟩⟩

theorem EncodesInItsRow.maskq (p : Pack) : EncodesInItsRow.Statement (.maskq p) := by
  refine ⟨rfl, fun w h => ⟨commandTable[15], List.getElem_mem _, rfl, ?_⟩⟩
  cases h
  cases p <;> decide

theorem EncodesInItsRow.balc (p : Pack) : EncodesInItsRow.Statement (.balc p) := by
  refine ⟨rfl, fun w h => ⟨commandTable[16], List.getElem_mem _, rfl, ?_⟩⟩
  cases h
  cases p <;> decide

theorem EncodesInItsRow.balw (p : Pack) : EncodesInItsRow.Statement (.balw p) := by
  refine ⟨rfl, fun w h => ⟨commandTable[17], List.getElem_mem _, rfl, ?_⟩⟩
  cases h
  cases p <;> decide

theorem EncodesInItsRow.poll (ign : Bool) (cp : Bool) : EncodesInItsRow.Statement (.poll ign cp) := by
  refine ⟨rfl, fun w h => ⟨commandTable[18], List.getElem_mem _, rfl, ?_⟩⟩
  cases h
  cases ign <;> cases cp <;> decide

theorem EncodesInItsRow.mpost (cp : Bool) : EncodesInItsRow.Statement (.mpost cp) := by
  refine ⟨rfl, fun w h => ⟨commandTable[19], List.getElem_mem _, rfl, ?_⟩⟩
  cases h
  cases cp <;> decide

theorem EncodesInItsRow.mdrain : EncodesInItsRow.Statement (.mdrain) := by
  exact ⟨rfl, fun w h => ⟨commandTable[20], List.getElem_mem _, rfl, by cases h; decide⟩⟩

theorem EncodesInItsRow.cycle (ign : Bool) (cp : Bool) : EncodesInItsRow.Statement (.cycle ign cp) := by
  refine ⟨rfl, fun w h => ⟨commandTable[21], List.getElem_mem _, rfl, ?_⟩⟩
  cases h
  cases ign <;> cases cp <;> decide

theorem EncodesInItsRow.halt : EncodesInItsRow.Statement (.halt) := by
  exact ⟨rfl, fun w h => ⟨commandTable[22], List.getElem_mem _, rfl, by cases h; decide⟩⟩

theorem EncodesInItsRow.afeSample (p : Pack) : EncodesInItsRow.Statement (.afeSample p) :=
  ⟨rfl, fun _ h => by cases h⟩

theorem EncodesInItsRow.afeSelect (p : Pack) (j : Nat) : EncodesInItsRow.Statement (.afeSelect p j) :=
  ⟨rfl, fun _ h => by cases h⟩

theorem EncodesInItsRow.afeBalset (p : Pack) : EncodesInItsRow.Statement (.afeBalset p) :=
  ⟨rfl, fun _ h => by cases h⟩

theorem EncodesInItsRow.afeSleep (p : Pack) : EncodesInItsRow.Statement (.afeSleep p) :=
  ⟨rfl, fun _ h => by cases h⟩

theorem EncodesInItsRow.afeWake (p : Pack) : EncodesInItsRow.Statement (.afeWake p) :=
  ⟨rfl, fun _ h => by cases h⟩

end Sys2Proof.Laws
end

