-- ==== Sys2Proof/Laws/Wire.lean ====
section
/-! SUPPORT. The pin view: what the pins of a frame are, how counts of level changes add up, and that bits and bytes agree (R52, R54, R57, R101). -/

namespace Sys2Proof.Machine

open Sys2Proof

/-! Bits and bytes. -/

/-- A byte is read back from its bits in wire order (R54). -/
theorem byteOfBits_msbFirst (b : Byte) : byteOfBits (msbFirst b) = b := by
  revert b
  decide +kernel

/-- A response is the packing of its three bytes (R73). -/
theorem packReply_unpackReply (rx : Word24) : packReply (unpackReply rx) = rx := by
  apply BitVec.eq_of_getLsbD_eq
  intro k hk
  simp only [packReply, unpackReply, BitVec.getLsbD_or, BitVec.getLsbD_shiftLeft, BitVec.getLsbD_setWidth,
    BitVec.getLsbD_extractLsb]
  have : k < 8 ∨ (8 ≤ k ∧ k < 16) ∨ 16 ≤ k := by omega
  rcases this with h | ⟨h, h'⟩ | h
  · simp [h, hk, show k < 16 by omega]
  · simp [hk, h', show ¬ k < 8 by omega, show 8 + (k - 8) = k by omega, show k - 8 < 24 by omega,
      show k - 8 < 8 by omega]
  · simp [hk, show ¬ k < 8 by omega, show ¬ k < 16 by omega, show 16 + (k - 16) = k by omega,
      show ¬ k - 8 < 8 by omega, show k - 16 < 8 by omega, show k - 16 < 24 by omega]

/-! The pins of a frame. -/

@[simp] theorem idlePins_cs (c : Config) (p : Pack) : (idlePins c).cs p = true := by cases p <;> rfl

@[simp] theorem idlePins_sclk (c : Config) : (idlePins c).sclk = c.spiPolarity := rfl

@[simp] theorem selectPins_cs (c : Config) (p q : Pack) : (selectPins c p).cs q = (p != q) := by
  cases p <;> cases q <;> rfl

@[simp] theorem selectPins_sclk (c : Config) (p : Pack) : (selectPins c p).sclk = c.spiPolarity := by cases p <;> rfl

@[simp] theorem msbFirst_length (b : Byte) : (msbFirst b).length = 8 := rfl

@[simp] theorem frameBits_length (t0 t1 t2 : Byte) (rx : Word24) : (frameBits t0 t1 t2 rx).length = 24 := rfl

/-- Both halves of a clock cycle keep the pack selected and the other not (R101). -/
theorem bitPins_cs (c : Config) (p q : Pack) (o i : Bool) : ∀ x ∈ bitPins c p o i, x.cs q = (p != q) := by
  intro x hx
  simp only [bitPins, List.mem_cons, List.not_mem_nil, or_false] at hx
  rcases hx with rfl | rfl <;> cases p <;> cases q <;> rfl

/-- Every sample of a frame has exactly the frame's pack selected, or is the release (R57, R107). -/
theorem framePins_cs (c : Config) (p : Pack) (t0 t1 t2 : Byte) (rx : Word24) :
    ∀ x ∈ framePins c p t0 t1 t2 rx, (∀ q, x.cs q = (p != q)) ∨ x = idlePins c := by
  intro x hx
  simp only [framePins, List.cons_append, List.mem_cons, List.mem_append, List.mem_flatMap, List.not_mem_nil, or_false] at hx
  rcases hx with rfl | ⟨b, -, hb⟩ | rfl | rfl
  · exact .inl fun q => selectPins_cs c p q
  · exact .inl fun q => bitPins_cs c p q _ _ x hb
  · exact .inl fun q => selectPins_cs c p q
  · exact .inr rfl

/-- A frame ends with its release (R57). -/
theorem framePins_getLast? (c : Config) (p : Pack) (t0 t1 t2 : Byte) (rx : Word24) :
    (framePins c p t0 t1 t2 rx).getLast? = some (idlePins c) := by
  simp only [framePins, List.getLast?_append]
  rfl

/-! Traces of pins. -/

@[simp] theorem pinTrace_nil (c : Config) : pinTrace c [] = [idlePins c] := rfl

/-- The pins of a longer trace are those of the shorter one and then those of the new events. -/
theorem pinTrace_append (c : Config) (es fs : List Event) :
    pinTrace c (es ++ fs) = pinTrace c es ++ fs.flatMap (Event.pins c) := by
  simp [pinTrace]

/-- Level changes add up where two stretches share a sample. -/
theorem falls_append (f : PinSample → Bool) (xs : List PinSample) (x : PinSample) (ys : List PinSample) :
    falls f (xs ++ x :: ys) = falls f (xs ++ [x]) + falls f (x :: ys) := by
  induction xs with
  | nil => simp [falls]
  | cons a xs ih =>
    cases xs with
    | nil => simp [falls]
    | cons b xs =>
      simp only [List.cons_append, falls] at ih ⊢
      rw [ih, Nat.add_assoc]

end Sys2Proof.Machine
end

