-- ==== Sys2Proof/Tests/Slice0.lean ====
section
/-! SUPPORT. Tests: ill-formed terms, words written out from the encodings, one step per vector of spec/95_test_vectors.md (V<n>), and a witness for the hypotheses of each statement. -/

namespace Sys2Proof.Tests

set_option Elab.async false

open Sys2Proof
open Sys2Proof.Machine

/-! The state the vectors start from: the parameters of section 1 of 95_test_vectors.md, with control bytes and channels
of our own where the vectors name them by symbol, and an AFE that answers 0. -/

/-- The parameters of the vectors. -/
def cfgV : Config :=
  { Config.default with
    adcCh0 := 3
    adcCh1 := 4
    ctrlSample := 0x10
    ctrlSelect := (List.range 16).map fun j => BitVec.ofNat 8 (0x80 + j)
    ctrlBalset := 0x20
    ctrlSleep := 0x30
    ctrlWake := 0x40
    csId0 := 10
    csId1 := 11
    enId0 := 12
    enId1 := 13
    spiPolarity := false
    spiPhase := false
    sclkHz := 1000000 }

/-- The parameters with NUM_CELLS = 12. -/
def cfg12 : Config :=
  { cfgV with
    numCells := 12
    ctrlSelect := (List.range 12).map fun j => BitVec.ofNat 8 (0x80 + j) }

/-- Reset, with an AFE that answers 0 to the next 80 frames. -/
def standby : State := { State.resetWith cfgV with afeIn := List.replicate 80 ⟨0, 0, 0⟩ }

/-- Reset with NUM_CELLS = 12. -/
def standby12 : State := { State.resetWith cfg12 with afeIn := List.replicate 80 ⟨0, 0, 0⟩ }

/-- In DRIVING with the ignition debounced. -/
def driving : State := { standby with mode := .driving, ignDb := true, radioEn := true }

/-- In CHARGING. -/
def charging : State := { standby with mode := .charging, radioEn := true }

/-- Halted in CHARGING. -/
def halted : State := { charging with halted := true }

/-- Reset with IGN_DEBOUNCE_N = 3 and CP_IRQ_ENABLE. -/
def slow : State := { standby with cfg := { cfgV with ignDebounceN := 3, cpIrqEnable := true } }

/-- n samples x in one cell buffer. -/
def holding (s : State) (p : Pack) (j n : Nat) (x : Int) : State :=
  (List.range n).foldl (fun s _ => s.pushCell p j x) s

/-- The state after the next word w. -/
def after (s : State) (w : Word) : Option State :=
  match step (s.issue w) with
  | .next t => some t
  | .fault _ => none
  | .refused _ => none

/-- The response to the next word w. -/
def answer (s : State) (w : Word) : Option Response := (after s w).bind (·.resp)

/-- The events the next word w appends. -/
def events (s : State) (w : Word) : Option (List Event) := (after s w).map (newEvents s)

/-- The response (OK, v). -/
def okay (v : Word) : Option Response := some { code := .ok, value := v }

/-- The response (c, 0). -/
def no (c : Code) : Option Response := some { code := c, value := 0 }

/-- The five events of a WAKE, AFE answering 0 (R194). -/
def wakeEvents : List Event :=
  [.en .p0 true, .frame .p0 0 0 0x40 0, .en .p1 true, .frame .p1 0 0 0x40 0, .radio true]

/-- The five events of a SLEEP, AFE answering 0 (R195). -/
def sleepEvents : List Event :=
  [.frame .p0 0 0 0x30 0, .en .p0 false, .frame .p1 0 0 0x30 0, .en .p1 false, .radio false]

/-! Ill-formed terms are refused (R77, R85). -/

theorem test_wf_push_cell : (Instr.push .p0 16 0).wellFormed = false := by decide
theorem test_wf_push_high : (Instr.push .p0 0 32768).wellFormed = false := by decide
theorem test_wf_push_low : (Instr.push .p0 0 (-32769)).wellFormed = false := by decide
theorem test_wf_pusht_high : (Instr.pusht .p0 524288).wellFormed = false := by decide
theorem test_wf_pusht_low : (Instr.pusht .p0 (-524289)).wellFormed = false := by decide
theorem test_wf_avg_cell : (Instr.avg .p0 16).wellFormed = false := by decide
theorem test_wf_select_cell : (Instr.afeSelect .p0 16).wellFormed = false := by decide
theorem test_wf_frame_is_no_command : (Instr.afeWake .p0).isCommand = false ∧ encode (.afeWake .p0) = none := by decide

/-! Words written out from the formats of R71 and the opcodes of R78 and R79: opcode [31:28], zeros [27:25], p [24], then
the fields. Sources: R86 and the words of 95_test_vectors.md. -/

theorem test_decode_xfer3 : decode 0b0001_000_1_01010110_00110100_00010010#32 = .ok (.xfer3 .p1 0x12 0x34 0x56) := by decide
theorem test_decode_seten : decode 0b0010_000_0_00000000000000000000000_1#32 = .ok (.seten .p0 true) := by decide
theorem test_decode_acq : decode 0b0011_000_1_000000000000000000000000#32 = .ok (.acq .p1) := by decide
theorem test_decode_push : decode 0b0100_000_0_1001_0000_0000100000011011#32 = .ok (.push .p0 9 2075) := by decide
theorem test_decode_push_negative : decode 0x41F08000#32 = .ok (.push .p1 15 (-32768)) := by decide
theorem test_decode_pusht : decode 0b0101_000_0_0000_11111111111111111111#32 = .ok (.pusht .p0 (-1)) := by decide
theorem test_decode_pusht_top : decode 0x5007FFFF#32 = .ok (.pusht .p0 524287) := by decide
theorem test_decode_avg : decode 0b0110_000_1_1111_00000000000000000000#32 = .ok (.avg .p1 15) := by decide
theorem test_decode_avgt : decode 0b0111_000_1_000000000000000000000000#32 = .ok (.avgt .p1) := by decide
theorem test_decode_ovq : decode 0b1000_000000000000000000000000_0000#32 = .ok .ovq := by decide
theorem test_decode_uvq : decode 0b1000_000000000000000000000000_0001#32 = .ok .uvq := by decide
theorem test_decode_balq : decode 0b1000_000000000000000000000000_0010#32 = .ok .balq := by decide
theorem test_decode_otq : decode 0b1000_000000000000000000000000_0011#32 = .ok .otq := by decide
theorem test_decode_statq : decode 0b1000_000000000000000000000000_0100#32 = .ok .statq := by decide
theorem test_decode_fltq : decode 0b1000_000000000000000000000000_0101#32 = .ok .fltq := by decide
theorem test_decode_diagq : decode 0b1000_000_1_00000000000000000000_0110#32 = .ok (.diagq .p1) := by decide
theorem test_decode_modeq : decode 0b1000_000000000000000000000000_0111#32 = .ok .modeq := by decide
theorem test_decode_maskq : decode 0b1000_000_1_00000000000000000000_1000#32 = .ok (.maskq .p1) := by decide
theorem test_decode_balc : decode 0b1001_000_1_000000000000000000000000#32 = .ok (.balc .p1) := by decide
theorem test_decode_balw : decode 0b1010_000_1_000000000000000000000000#32 = .ok (.balw .p1) := by decide
theorem test_decode_poll : decode 0b1011_00000000000000000000000000_1_0#32 = .ok (.poll true false) := by decide
theorem test_decode_mpost : decode 0b1100_000000000000000000000000000_1#32 = .ok (.mpost true) := by decide
theorem test_decode_mdrain : decode 0b1101_0000000000000000000000000000#32 = .ok .mdrain := by decide
theorem test_decode_cycle : decode 0b1110_00000000000000000000000000_0_1#32 = .ok (.cycle false true) := by decide
theorem test_decode_halt : decode 0b1111_0000000000000000000000000000#32 = .ok .halt := by decide

/-- The ILLEGAL words of V1 to V9, each for its own reason. -/
theorem test_decode_illegal :
    decode 0x00000000#32 = .error .reservedOpcode ∧ decode 0x32000000#32 = .error .reservedBits ∧
    decode 0x80000009#32 = .error .reservedSub ∧ decode 0x8000000F#32 = .error .reservedSub ∧
    decode 0x81000000#32 = .error .reservedBits ∧ decode 0x40010000#32 = .error .reservedBits ∧
    decode 0x4F000000#32 = .error .reservedBits ∧ decode 0xB0000004#32 = .error .reservedBits ∧
    decode 0x20000002#32 = .error .reservedBits := by decide

/-! The frame kinds (R72, R75): t0, t1 the mask bytes, t2 the control byte. -/

theorem test_frame_sample : encodeFrame cfgV 0x8001 (.afeSample .p1) = some 0x800110 ∧
    decodeFrame cfgV .p1 0x800110 = some (.afeSample .p1) := by decide +kernel
theorem test_frame_select : encodeFrame cfgV 0x0040 (.afeSelect .p0 15) = some 0x00408F ∧
    decodeFrame cfgV .p0 0x00408F = some (.afeSelect .p0 15) := by decide +kernel
theorem test_frame_balset : encodeFrame cfgV 0x0040 (.afeBalset .p0) = some 0x004020 ∧
    decodeFrame cfgV .p0 0x004020 = some (.afeBalset .p0) := by decide +kernel
theorem test_frame_sleep : encodeFrame cfgV 0x0040 (.afeSleep .p0) = some 0x000030 ∧
    decodeFrame cfgV .p0 0x000030 = some (.afeSleep .p0) := by decide +kernel
theorem test_frame_wake : encodeFrame cfgV 0x0040 (.afeWake .p1) = some 0x000040 ∧
    decodeFrame cfgV .p1 0x000040 = some (.afeWake .p1) ∧ decodeFrame cfgV .p1 0x010040 = none := by decide +kernel

/-! Assembler lines (R85, R86). -/

theorem test_asm_push : assembleWord ['P', 'U', 'S', 'H', ' ', '0', ',', ' ', '9', ',', ' ', '2', '0', '7', '5', ' ', ';', 'x'] =
    some 0x4090081B := by decide +kernel
theorem test_asm_hex_and_sign :
    assembleLine ['P', 'U', 'S', 'H', 'T', ' ', '0', ',', ' ', '-', '0', 'x', '1'] = .command (.pusht .p0 (-1)) := by
  decide +kernel
theorem test_asm_text : asmText textHex (.push .p1 9 (-2075)) =
    some ['P', 'U', 'S', 'H', ' ', '0', 'x', '1', ',', ' ', '0', 'x', '9', ',', ' ', '-', '0', 'x', '8', '1', 'b'] := by
  decide +kernel
theorem test_asm_refuses_range : assembleLine ['A', 'V', 'G', ' ', '0', ',', ' ', '1', '6'] = .refused := by decide +kernel
theorem test_asm_comment_only : assembleLine [' ', ';', 'H'] = .nothing := by decide +kernel

/-! Refusals (V1 to V20): the response, and no event. -/

theorem test_refuse_illegal : answer standby 0 = no .illegal ∧ answer halted 0x08000000 = no .illegal := by decide +kernel
theorem test_refuse_cell : answer standby12 0x40C00000 = no .badArg ∧ answer standby12 0x60C00000 = no .badArg := by
  decide +kernel
theorem test_refuse_mode : answer standby 0x30000000 = no .badMode ∧ answer standby 0x90000000 = no .badMode ∧
    answer driving 0xA1000000 = no .badMode ∧ events driving 0xA1000000 = some [] := by decide +kernel
theorem test_refuse_halted : answer halted 0x10000000 = no .halted ∧ events halted 0x10000000 = some [] ∧
    answer { standby12 with halted := true } 0x40C00000 = no .halted ∧
    answer { standby12 with halted := true } 0x60C00000 = no .badArg := by decide +kernel

/-! Transport (V21, V23, V24, V26). -/

theorem test_xfer3 : answer { standby with afeIn := [⟨0xAA, 0xBB, 0xCC⟩] } 0x11563412 = okay 0x00CCBBAA ∧
    events { standby with afeIn := [⟨0xAA, 0xBB, 0xCC⟩] } 0x11563412 = some [.frame .p1 0x12 0x34 0x56 0xCCBBAA] := by
  decide +kernel
theorem test_xfer3_leaves_diag : ((after { standby with afeIn := [⟨0xFF, 0xFF, 0xFF⟩] } 0x10FFFFFF).map fun t =>
    (t.resp, t.pack0.diag)) = some (okay 0x00FFFFFF, false) := by decide +kernel
theorem test_seten_on : ((after standby 0x20000001).map fun t => (t.resp, t.trace, t.pack0.enable, t.mode)) =
    some (okay 0, [.en .p0 true], true, .standby) := by decide +kernel
theorem test_seten_off : ((after { standby with pack1 := { standby.pack1 with enable := true } } 0x21000000).map fun t =>
    (t.resp, t.trace, t.pack1.enable)) = some (okay 0, [.en .p1 false], false) := by decide +kernel

/-- The pins of FRAME(1, 0x80, 0x00, 0x01, 0x000080) with the clock idling low and sampled on its leading edge (R54, R57,
R101): pack 1's select, the first bit's two halves, the last bit, and the release. -/
theorem test_pins : (framePins cfgV .p1 0x80 0x00 0x01 0x000080).take 3 =
      [⟨true, false, false, none, none⟩, ⟨true, false, false, some true, some true⟩, ⟨true, false, true, some true, some true⟩] ∧
    (framePins cfgV .p1 0x80 0x00 0x01 0x000080).drop 47 =
      [⟨true, false, false, some true, some false⟩, ⟨true, false, true, some true, some false⟩,
        ⟨true, false, false, none, none⟩, ⟨true, true, false, none, none⟩] := by decide +kernel

/-- With polarity and phase true the clock idles high and the first half of a cycle is the low one (log 13). -/
theorem test_pins_mode3 : ((framePins { cfgV with spiPolarity := true, spiPhase := true } .p0 0 0 0 0).take 4).map
    (fun x => (x.cs0, x.sclk)) = [(false, true), (false, false), (false, true), (false, false)] := by decide +kernel

/-- Two frames on one pack are two selects and 48 clock cycles (R57). -/
theorem test_two_frames_two_selects :
    let w := pinTrace cfgV [.frame .p0 1 2 3 4, .radio true, .frame .p0 5 6 7 8]
    falls (fun x => x.cs .p0) w = 2 ∧ falls (fun x => x.cs .p1) w = 0 ∧ falls (fun x => !x.sclk) w = 48 := by decide +kernel

/-! Acquisition (V27, V28, V29, V30, V31). -/

/-- V27: cell j reads 2000 + j, the highest cell first. -/
theorem test_acq_reads : ((after { driving with adcIn := (List.range 16).map fun k => 2015 - (k : Int) } 0x30000000).map
    fun t => (t.resp, t.trace.length, t.trace.take 5, (t.cell .p0 15).sum, (t.cell .p0 0).sum, (t.tot .p0).sum)) =
    some (okay 0, 51, [.frame .p0 0 0 0x10 0, .delay .sampleSettle, .frame .p0 0 0 0x8F 0, .delay .muxSettle,
      .adc 3 2015], 2015, 2000, 32120) := by decide +kernel

/-- V28, V29, V30: only the low byte of a frame before the restore frame sets diag. -/
theorem test_acq_diag :
    (after { charging with afeIn := [⟨1, 0, 0⟩] ++ List.replicate 17 ⟨0, 0, 0⟩, adcIn := List.replicate 16 1900 }
      0x31000000).map (fun t => (t.pack1.diag, t.trace.length)) = some (true, 52) ∧
    (after { charging with afeIn := [⟨0, 0, 0⟩, ⟨0, 1, 0⟩] ++ List.replicate 15 ⟨0, 0, 0⟩ ++ [⟨1, 0, 0⟩],
                           adcIn := List.replicate 16 1900 } 0x31000000).map
      (fun t => (t.pack1.diag, t.trace.length)) = some (false, 51) := by decide +kernel

/-! Filter (V34, V36, V39, V41, V42, P2). -/

theorem test_push_negative : ((after standby 0x4000FFFF).map fun t => ((t.cell .p0 0).count, (t.cell .p0 0).sum)) =
    some (1, -1) := by decide +kernel
theorem test_push_evicts : ((after (holding standby .p0 0 20 2000) 0x40000834).map fun t =>
    ((t.cell .p0 0).head, (t.cell .p0 0).count, (t.cell .p0 0).sum, (t.cell .p0 0).slots.take 2)) =
    some (1, 20, 40100, [2100, 2000]) := by decide +kernel
theorem test_avg_largest : answer (holding standby .p0 15 20 32767) 0x60F00000 = okay 0xA009FFEC := by decide +kernel
theorem test_avg_halted_and_negative :
    answer { holding standby .p1 15 1 (-32768) with halted := true } 0x61F00000 = okay 0x09FF8000 := by decide +kernel
theorem test_pusht : ((after standby 0x51007D00).map fun t => ((t.tot .p1).count, (t.tot .p1).sum, (t.tot .p0).count)) =
    some (1, 32000, 0) := by decide +kernel
theorem test_avgt_smallest : answer ((List.range 20).foldl (fun s _ => s.pushTot .p0 (-524288)) standby) 0x70000000 =
    okay 0xA1600000 := by decide +kernel
theorem test_avgt_empty : answer standby 0x71000000 = okay 0 := by decide +kernel

/-! Comparator (V45 to V50). -/

theorem test_ovq_at_threshold : answer (holding standby .p0 9 1 2075) 0x80000000 = okay 1 ∧
    answer (holding standby .p0 9 1 2074) 0x80000000 = okay 0 := by decide +kernel
theorem test_uvq_at_threshold : answer (holding standby .p1 3 1 1700) 0x80000001 = okay 0 ∧
    answer (holding standby .p1 3 1 1699) 0x80000001 = okay 1 := by decide +kernel
theorem test_balq : answer (charging.setMask .p0 0x0040) 0x80000002 = okay 1 ∧ answer charging 0x80000002 = okay 0 := by
  decide +kernel
theorem test_otq_fltq : answer charging 0x80000003 = okay 0 ∧ answer charging 0x80000005 = okay 0 := by decide +kernel
theorem test_statq : answer ((holding charging .p0 9 1 2075).setMask .p0 0x0040) 0x80000004 = okay 5 ∧
    answer (holding (holding standby .p0 0 2 2075) .p1 0 1 1000) 0x80000004 = okay 3 := by decide +kernel
theorem test_diagq : answer (standby.setDiag .p1 true) 0x81000006 = okay 1 ∧
    answer (standby.setDiag .p1 true) 0x80000006 = okay 0 := by decide +kernel
theorem test_modeq : answer standby 0x80000007 = okay 0 ∧ answer driving 0x80000007 = okay 1 ∧
    answer charging 0x80000007 = okay 2 := by decide +kernel
theorem test_maskq : answer (charging.setMask .p1 0x8001) 0x81000008 = okay 0x8001 := by decide +kernel

/-! Balance selector (V54, V57, V58, V59). -/

theorem test_balc : ((after ((holding (holding charging .p0 0 1 2100) .p0 15 1 2075).setMask .p0 0x4000) 0x90000000).map
    fun t => (t.mask .p0, t.trace)) = some (0x8001, []) := by decide +kernel
theorem test_balc_twelve : ((after { holding standby12 .p0 11 1 2200 with mode := .charging } 0x90000000).map fun t =>
    t.mask .p0) = some 0x0010 := by decide +kernel
theorem test_balw : events (charging.setMask .p0 0x0040) 0xA0000000 = some [.frame .p0 0 0x40 0x20 0] := by decide +kernel
theorem test_balw_response_unused : ((after { charging with afeIn := [⟨0xFF, 0xFF, 0xFF⟩] } 0xA1000000).map fun t =>
    (t.resp, t.pack1.diag)) = some (okay 0, false) := by decide +kernel

/-! Mode machine (V61, V65, V66, V68, V70, V73). -/

theorem test_poll_charge_port_first : ((after standby 0xB0000003).map fun t => (t.mode, t.trace)) =
    some (.charging, wakeEvents) := by decide +kernel
theorem test_poll_sleep_keeps_mask : ((after (charging.setMask .p0 0x0040) 0xB0000002).map fun t =>
    (t.mode, t.trace, t.mask .p0, t.pack0.enable, t.radioEn)) = some (.standby, sleepEvents, 0x0040, false, false) := by
  decide +kernel
theorem test_debounce_counts : ((after { slow with ignCnt := 1 } 0xB0000002).map fun t => (t.mode, t.ignDb, t.ignCnt)) =
    some (.standby, false, 2) := by decide +kernel
theorem test_debounce_changes : ((after { slow with ignCnt := 2 } 0xB0000002).map fun t => (t.mode, t.ignDb, t.ignCnt)) =
    some (.driving, true, 0) := by decide +kernel
theorem test_mpost : ((after { slow with mbox := some true } 0xC0000000).map fun t => (t.resp, t.mbox)) =
    some (okay 0, some false) ∧
    ((after standby 0xC0000001).map fun t => (t.resp, t.mbox)) = some (okay 0, none) := by decide +kernel
theorem test_mdrain : ((after { slow with mbox := some true } 0xD0000000).map fun t => (t.mode, t.mbox, t.trace)) =
    some (.charging, none, wakeEvents) := by decide +kernel
theorem test_halt : ((after driving 0xF0000000).map fun t => (t.resp, t.halted, t.mode, t.trace)) =
    some (okay 0, true, .driving, []) := by decide +kernel

/-! Cycle (V75, V78's step 4 and 5 in CHARGING). -/

theorem test_cycle_wakes : events standby 0xE0000002 = some wakeEvents := by decide +kernel
theorem test_cycle_charging : ((after { charging with adcIn := 2100 :: List.replicate 31 1900 } 0xE0000001).map fun t =>
    (t.mode, t.trace.length, t.trace.drop 102, t.mask .p0)) =
    some (.charging, 105, [.frame .p0 0 1 0x20 0, .frame .p1 0 0 0x20 0, .can 5 0], 1) := by decide +kernel

/-! The frame kinds as instructions (R75). -/

theorem test_afe_sample : (match exec (.afeSample .p1) (charging.setMask .p1 0x8001) with
    | .next t => t.trace
    | .fault _ => []
    | .refused _ => []) = [.frame .p1 0x80 0x01 0x10 0] := by decide +kernel
theorem test_afe_sleep_zero_mask : (match exec (.afeSleep .p1) (charging.setMask .p1 0x8001) with
    | .next t => t.trace
    | .fault _ => []
    | .refused _ => []) = [.frame .p1 0 0 0x30 0] := by decide +kernel

/-! Witnesses: concrete states and operands that meet the hypotheses of each statement that has some, one per clause and
at the ends of each range. -/

theorem witness_CommandsDecodeBack :
    ∀ i ∈ [Instr.push .p1 15 (-32768), .push .p0 0 32767, .pusht .p1 (-524288), .pusht .p0 524287, .avg .p0 0, .avg .p1 15,
      .xfer3 .p0 0 0x80 0xFF, .halt], i.wellFormed = true ∧ i.isCommand = true := by decide

theorem witness_DecodedWordsEncodeBack : decode 0x41F08000 = .ok (.push .p1 15 (-32768)) := by decide

theorem witness_EveryWordHasItsRowOrIsIllegal :
    (standby.issue 0x00000000).cmds = [0x00000000] ∧
    (0x0FFFFFFF#32).extractLsb 31 28 = 0 ∧
    (0x80000009#32).extractLsb 31 28 = 8 ∧ 9 ≤ ((0x80000009#32).extractLsb 3 0).toNat ∧
    9 ≤ ((0x8000000F#32).extractLsb 3 0).toNat := by decide +kernel

/-- A word of each format with its lowest or highest reserved bit set. -/
theorem witness_reservedBitSet :
    ∀ x ∈ [(0x1E000000#32, Format.fx, 27, 25), (0x30000001#32, .fp, 23, 0), (0x20000002#32, .fpv, 23, 1),
      (0x40010000#32, .fpjc, 19, 16), (0x50100000#32, .fpt, 23, 20), (0x60080000#32, .fpj, 19, 0),
      (0x81000000#32, .fq, 27, 4), (0x80000018#32, .fqp, 23, 4), (0xB0000004#32, .fic, 27, 2), (0xC8000000#32, .fc, 27, 1),
      (0xF0000001#32, .fn, 27, 0)],
      wordFormat x.1 = some x.2.1 ∧ x.2.2 ∈ x.2.1.reserved ∧ x.1.extractLsb x.2.2.1 x.2.2.2 ≠ 0 := by decide +kernel

theorem witness_StepRunsTheDecodedCommand :
    standby.cmds = [] ∧ (standby.issue 0xF0000000).cmds = [0xF0000000] ∧ decode 0xF0000000 = .ok .halt := by
  decide +kernel

theorem witness_FrameKindsReadBack :
    ([cfgV.ctrlSample, cfgV.ctrlBalset, cfgV.ctrlSleep, cfgV.ctrlWake] ++
      (List.range cfgV.numCells).map cfgV.selectByte).Nodup ∧
    0 < cfgV.numCells ∧ 15 < cfgV.numCells ∧
    encodeFrame cfgV 0xFFFF (.afeSample .p0) = some 0xFFFF10 ∧ encodeFrame cfgV 0 (.afeSelect .p1 0) = some 0x000080 ∧
    encodeFrame cfgV 0 (.afeSelect .p1 15) = some 0x00008F ∧ encodeFrame cfgV 1 (.afeBalset .p0) = some 0x000120 ∧
    encodeFrame cfgV 1 (.afeSleep .p0) = some 0x000030 ∧ encodeFrame cfgV 1 (.afeWake .p0) = some 0x000040 := by
  decide +kernel

theorem witness_AssembledLinesAreCommandsWithWords :
    assembleLine ['H', 'A', 'L', 'T'] = .command .halt ∧
    ∀ i ∈ [Instr.push .p1 15 (-32768), .push .p0 0 32767, .pusht .p0 (-524288), .pusht .p1 524287, .avg .p0 15,
      .xfer3 .p0 0 0x80 0xFF, .ovq], i.wellFormed = true ∧ i.isCommand = true := by decide +kernel

theorem witness_ResetGivesTheResetState : 0 < cfgV.numCells ∧ 15 < cfgV.numCells ∧ 11 < cfg12.numCells := by decide +kernel

theorem witness_OnlyResetClearsTheHalt :
    halted.halted = true ∧ step (halted.issue 0xF0000000) = .next halted.done := by
  exact ⟨rfl, rfl⟩

theorem witness_Xfer3SendsOneRawFrame : standby.halted = false ∧ driving.halted = false ∧ charging.halted = false := by
  decide +kernel

theorem witness_AnyFrameResponseIsPossible :
    standby.halted = false ∧ ([0x000000, 0xFFFFFF] : List Word24).length = 2 ∧
    ∃ t, exec (.poll true false) { standby with afeIn := [⟨0, 0, 0⟩, ⟨0xFF, 0xFF, 0xFF⟩] } = .next t ∧
      frameResponses (newEvents standby t) = [0x000000, 0xFFFFFF] := ⟨rfl, rfl, _, rfl, by decide +kernel⟩

theorem witness_SetenDrivesTheEnableLine : standby.halted = false ∧ driving.halted = false := ⟨rfl, rfl⟩

theorem witness_AfeFrameKindsSendTheirFrame : standby.halted = false ∧ halted.halted = true := ⟨rfl, rfl⟩

theorem witness_FramePinsCarryEveryBit :
    0 < 24 ∧ 23 < 24 ∧ ∀ x ∈ pinTrace cfgV [.frame .p0 0x80 0x01 0xFF 0x800001], x.cs0 = true ∨ x.cs1 = true := by
  decide +kernel

theorem witness_AcqTraceIsExact :
    (driving.halted = false ∧ driving.mode ≠ .standby) ∧ charging.halted = false ∧ charging.mode ≠ .standby := by
  decide +kernel

theorem witness_AcqPushesWhatItReads :
    (driving.halted = false ∧ driving.mode ≠ .standby ∧ driving.pack1.buf.length = driving.cfg.numCells) ∧
    (0 < driving.cfg.numCells ∧ 15 < driving.cfg.numCells) ∧
    { driving with cfg := { cfgV with totalSource := .external } }.mode ≠ .standby := by decide +kernel

theorem witness_AcqRunsOutsideStandbyOnly :
    (standby.halted = false ∧ standby.mode = .standby) ∧ (driving.halted = false ∧ driving.mode = .driving) ∧
    charging.halted = false ∧ charging.mode = .charging := by decide +kernel

theorem witness_AdcCodesStayInRange :
    driving.cfg.adcMin ≤ driving.cfg.adcMax ∧
    ∃ t, step ({ driving with adcIn := [5000, -5] }.issue 0x30000000) = .next t ∧
      Event.adc 3 4095 ∈ newEvents driving t ∧ Event.adc 3 0 ∈ newEvents driving t :=
  ⟨by decide, _, rfl, by decide +kernel, by decide +kernel⟩

theorem witness_AcqSettleTimesAddUp : charging.halted = false ∧ charging.mode ≠ .standby := by decide +kernel

theorem witness_PushCommandPushesTheCode :
    (standby.halted = false ∧ 0 < standby.cfg.numCells ∧ 15 < standby.cfg.numCells) ∧
    standby12.halted = false ∧ 11 < standby12.cfg.numCells := by decide +kernel

theorem witness_PushtCommandPushesTheTotal : driving.halted = false := rfl

/-- A full buffer of the value x. -/
def full (x : Int) : Ring := { slots := List.replicate 20 x, head := 7, count := 20, sum := 20 * x }

/-- An empty buffer whose unwritten slots hold x. -/
def unwritten (x : Int) : Ring := { slots := List.replicate 20 x, head := 0, count := 0, sum := 0 }

theorem witness_PushSlidesTheWindow :
    Ring.wf (-32768) 32767 Ring.empty ∧ Ring.wf (-32768) 32767 (full 32767) ∧ Ring.wf (-32768) 32767 (full (-32768)) ∧
    Ring.empty.count < 20 ∧ ¬ (full 32767).count < 20 := by decide +kernel

theorem witness_UnwrittenSlotsAreNeverSeen :
    Ring.wf (-32768) 32767 Ring.empty ∧ Ring.wf (-32768) 32767 (unwritten 32767) ∧
    Ring.empty.window = (unwritten 32767).window ∧ ∀ x ∈ [(-32768 : Int), 32767], -32768 ≤ x ∧ x ≤ 32767 := by
  decide +kernel

theorem witness_SumsFitTheirWidths :
    (full 32767).cellWf ∧ (full (-32768)).cellWf ∧ (full 524287).totWf ∧ (full (-524288)).totWf := by decide +kernel

theorem witness_AvgAnswersCountAndSum :
    (0 < halted.cfg.numCells ∧ (halted.cell .p0 0).cellWf) ∧
    15 < standby.cfg.numCells ∧ ((holding standby .p1 15 3 (-32768)).cell .p1 15).cellWf := by decide +kernel

theorem witness_AvgtAnswersCountAndSum :
    (standby.tot .p0).totWf ∧ ((standby.setTot .p1 (full (-524288))).tot .p1).totWf := by decide +kernel

theorem cfgV_legal : cfgV.legal := by decide +kernel

theorem cfg12_legal : cfg12.legal := by decide +kernel

/-- One cell at exactly 4.15 V (V45). -/
theorem over_at_threshold : ((holding charging .p0 9 1 2075).cell .p0 9).isOver cfgV :=
  (Ring.atLeastUpper_iff_isOver cfgV cfgV_legal _).mp (by decide +kernel)

/-- One cell just below 3.4 V (V48). -/
theorem under_at_threshold : ((holding charging .p1 3 1 1699).cell .p1 3).isUnder cfgV :=
  (Ring.belowLower_iff_isUnder cfgV cfgV_legal _).mp (by decide +kernel)

theorem witness_OvqIsTheExactComparison :
    (holding charging .p0 9 1 2075).cfg.legal ∧ 9 < (holding charging .p0 9 1 2075).cfg.numCells ∧
    ((holding charging .p0 9 1 2075).cell .p0 9).isOver cfgV :=
  ⟨cfgV_legal, by decide +kernel, over_at_threshold⟩

theorem witness_UvqIsTheExactComparison :
    (holding charging .p1 3 1 1699).cfg.legal ∧ 3 < (holding charging .p1 3 1 1699).cfg.numCells ∧
    ((holding charging .p1 3 1 1699).cell .p1 3).isUnder cfgV :=
  ⟨cfgV_legal, by decide +kernel, under_at_threshold⟩

theorem witness_QueriesArePure :
    ∀ i ∈ [Instr.ovq, .uvq, .balq, .otq, .statq, .fltq, .diagq .p1, .modeq, .maskq .p0], isQuery i = true := by decide

/-- The vectors' buffer of V52: twenty samples of 1900, 3.8 V. -/
theorem full_1900_mean : ((full 1900).sum : ℚ) * cfgV.scale = 19 / 5 * ((full 1900).count : ℚ) := by
  norm_num [full, Config.scale, Config.fsr, cfgV, Config.default]

theorem witness_FlagCombinations :
    cfgV.legal ∧ (charging.setCell .p0 0 (full 1900)).cfg.legal ∧ 0 < (charging.setCell .p0 0 (full 1900)).cfg.numCells ∧
    (charging.setCell .p0 0 (full 1900)).cell .p0 0 = full 1900 ∧ 0 < (full 1900).count ∧
    ((full 1900).sum : ℚ) * cfgV.scale = 19 / 5 * ((full 1900).count : ℚ) ∧
    ∀ p j, j < 16 → ((charging.setCell .p0 0 (full 1900)).cell p j).count = 0 ∨
      (charging.setCell .p0 0 (full 1900)).cell p j = full 1900 := by
  refine ⟨cfgV_legal, cfgV_legal, by decide +kernel, by decide +kernel, by decide +kernel, full_1900_mean, ?_⟩
  intro p j hj
  cases p <;> interval_cases j <;> decide +kernel

theorem witness_BalcRebuildsTheMask :
    (holding charging .p0 9 1 2075).cfg.legal ∧ (holding charging .p0 9 1 2075).halted = false ∧
    (holding charging .p0 9 1 2075).mode = .charging ∧
    ({ standby12 with mode := .charging } : State).cfg.legal := ⟨cfgV_legal, rfl, rfl, cfg12_legal⟩

theorem witness_BalwCommitsTheMask : charging.halted = false ∧ charging.mode = .charging := ⟨rfl, rfl⟩

theorem witness_BalancingRunsInChargingOnly :
    (charging.halted = false ∧ charging.mode = .charging) ∧ (driving.halted = false ∧ driving.mode = .driving) ∧
    standby.halted = false ∧ standby.mode = .standby := by decide +kernel

theorem witness_AfterBalcOverVoltageIsBalancing :
    charging.cfg.legal ∧ charging.halted = false ∧ charging.mode = .charging ∧ 15 < charging.cfg.numCells :=
  ⟨cfgV_legal, rfl, rfl, by decide +kernel⟩

theorem witness_TransitionsFollowTheTable :
    standby.mode = .standby ∧ driving.mode = .driving ∧ charging.mode = .charging := ⟨rfl, rfl, rfl⟩

theorem witness_PollDebouncesThenTransitions :
    slow.halted = false ∧
    ({ slow with ignCnt := 0 } : State) = (if false = slow.ignDb then { slow with ignCnt := 0 }
      else if slow.cfg.ignDebounceN ≤ slow.ignCnt + 1 then { slow with ignDb := false, ignCnt := 0 }
      else { slow with ignCnt := slow.ignCnt + 1 }) := ⟨rfl, rfl⟩

theorem witness_DebouncerCountsConsecutivePolls :
    (false = slow.ignDb) ∧
    (true ≠ slow.ignDb ∧ slow.cfg.ignDebounceN ≤ ({ slow with ignCnt := 2 } : State).ignCnt + 1) ∧
    (true ≠ slow.ignDb ∧ ({ slow with ignCnt := 1 } : State).ignCnt + 1 < slow.cfg.ignDebounceN) ∧
    (true ≠ slow.ignDb ∧ slow.ignCnt = 0 ∧ 1 ≤ slow.cfg.ignDebounceN ∧ 0 < slow.cfg.ignDebounceN ∧ 2 < slow.cfg.ignDebounceN) ∧
    standby.cfg.ignDebounceN = 1 := by decide +kernel

theorem witness_PollingIsIdempotent :
    (standby.trans true false).mode ≠ .standby ∧ (driving.trans true false).mode ≠ .standby ∧
    (driving.trans false true).mode ≠ driving.mode ∧
    ((driving.trans false true).trans false true).mode ≠ (driving.trans false true).mode := by decide +kernel

theorem witness_MpostFillsTheMailbox :
    (slow.halted = false ∧ slow.cfg.cpIrqEnable = true) ∧ standby.halted = false ∧ standby.cfg.cpIrqEnable = false := by
  decide +kernel

theorem witness_MdrainAppliesTheMailbox :
    (slow.halted = false ∧ slow.mbox = none) ∧ ({ slow with mbox := some true } : State).halted = false ∧
    ({ slow with mbox := some true } : State).mbox = some true := by decide +kernel

theorem witness_HaltedBlockAnswersReadsOnly :
    halted.halted = true ∧ refusedWhileHalted (.cycle true true) = true ∧ refusedWhileHalted (.xfer3 .p0 0 0 0) = true ∧
    isQuery .statq = true ∧ 0 < halted.cfg.numCells ∧ 15 < halted.cfg.numCells ∧
    step (halted.issue 0xF0000000) = .next halted.done :=
  ⟨rfl, rfl, rfl, rfl, by decide +kernel, by decide +kernel, rfl⟩

theorem witness_RefusalCodesByPriority :
    ((standby.issue 0).cmds = [0] ∧ decode 0 = .error .reservedOpcode) ∧ halted.halted = true ∧
    (standby12.cfg.numCells ≤ 12 ∧ standby12.halted = false) ∧ (standby.halted = false ∧ standby.mode = .standby) ∧
    (driving.halted = false ∧ driving.mode ≠ .charging) ∧
    (charging.halted = false ∧ (Instr.balc .p0).isCommand = true ∧ charging.mode = .charging ∧ charging.mode ≠ .standby) := by
  decide +kernel

theorem witness_RefusedCommandHasNoEffect :
    ∃ t r, (standby.issue 0x30000000).cmds = [0x30000000] ∧ step (standby.issue 0x30000000) = .next t ∧
      t.resp = some r ∧ r.code ≠ .ok := ⟨_, _, rfl, rfl, rfl, by decide⟩

theorem witness_CycleIsTheSequenceOfItsCommands :
    standby.halted = false ∧ driving.halted = false ∧ charging.halted = false := ⟨rfl, rfl, rfl⟩

/-- A transition at step 1, one at step 5, both, and none: by an empty mailbox, a no-op level, and a poll that counts. -/
theorem witness_CycleTraceByMode :
    (standby.halted = false ∧ standby.drainEffect = .stay ∧ transitionEffect .standby (standby.debounce true).ignDb false = .wakeTo .driving) ∧
    ({ standby with mbox := some true }.drainEffect = .wakeTo .charging ∧
      transitionEffect .charging (standby.debounce false).ignDb false = .sleep) ∧
    ({ driving with mbox := some true }.drainEffect = .stay ∧ driving.halted = false ∧
      transitionEffect .driving (driving.debounce true).ignDb true = .stay) ∧
    ({ charging with mbox := some true }.drainEffect = .stay ∧ charging.halted = false) ∧
    transitionEffect .standby (slow.debounce true).ignDb false = .stay := by decide +kernel

theorem witness_InvariantHoldsAtReset : cfgV.legal ∧ cfg12.legal := ⟨cfgV_legal, cfg12_legal⟩

/-- A state in CHARGING with a stored sample and a mask bit meets the invariant. -/
theorem charging_inv : ((holding charging .p0 9 1 2075).setMask .p0 0x0040).inv := by
  refine ⟨cfgV_legal, ⟨by decide +kernel, by decide +kernel, by decide +kernel, by decide +kernel⟩,
    ⟨by decide +kernel, by decide +kernel, by decide +kernel, by decide +kernel⟩, by decide +kernel, by decide +kernel⟩

theorem witness_InvariantKeptByEveryStep :
    ((holding charging .p0 9 1 2075).setMask .p0 0x0040).inv ∧
    step ((holding charging .p0 9 1 2075).setMask .p0 0x0040) = .next ((holding charging .p0 9 1 2075).setMask .p0 0x0040) :=
  ⟨charging_inv, rfl⟩

theorem witness_MasksAreZeroInDriving :
    (driving.mode = .driving ∧ (∀ p, driving.mask p = 0) ∧ driving.halted = false) ∧ step driving = .next driving :=
  ⟨⟨rfl, fun p => by cases p <;> rfl, rfl⟩, rfl⟩

theorem witness_NewMaskBitsHaveHighMeans :
    (holding charging .p0 9 1 2075).cfg.legal ∧
    ∃ t, step ((holding charging .p0 9 1 2075).issue 0x90000000) = .next t ∧ (t.mask .p0).getLsbD (15 - 9) = true :=
  ⟨cfgV_legal, _, rfl, by decide +kernel⟩

theorem witness_ParametersNeverChange : step (standby.issue 0xF0000000) = .next ((standby.enterHalt).done) := rfl

theorem witness_SingleWriterPerRegister : exec .halt standby = .next ((standby.enterHalt).done) := rfl

theorem witness_TraceOnlyGrows :
    step (standby.issue 0x20000001) = .next ((standby.setLine .p0 true).done) := rfl

end Sys2Proof.Tests
end

/-! PROOFS. The parameters are arguments of the whole run (00_scope.md R8): no shared operation, no instruction and no step
writes `cfg`. -/

namespace Sys2Proof.Proofs

open Sys2Proof
open Sys2Proof.Machine

section
variable {s : State}

/-! The checks: a check keeps the parameters if the body it lets through does, since a refusal does (R231). -/

theorem unlessHalted_cfg {body : State → State} (hbody : (body s).cfg = s.cfg) :
    (s.unlessHalted body).cfg = s.cfg := by
  unfold State.unlessHalted
  split
  · exact s.refuse_cfg .halted
  · exact hbody

@[simp] theorem withCellArg_cfg {j : Nat} {body : State → State} (hbody : (body s).cfg = s.cfg) :
    (s.withCellArg j body).cfg = s.cfg := by
  unfold State.withCellArg
  split
  · exact s.refuse_cfg .badArg
  · exact hbody

@[simp] theorem unlessStandby_cfg {body : State → State} (hbody : (body s).cfg = s.cfg) :
    (s.unlessStandby body).cfg = s.cfg := by
  unfold State.unlessStandby
  split
  · exact s.refuse_cfg .badMode
  · exact hbody

@[simp] theorem onlyCharging_cfg {body : State → State} (hbody : (body s).cfg = s.cfg) :
    (s.onlyCharging body).cfg = s.cfg := by
  unfold State.onlyCharging
  split
  · exact hbody
  · exact s.refuse_cfg .badMode

/-! The bodies of the commands. -/

@[simp] theorem sendKind_cfg (p : Pack) (m : Mask) (t : Byte) : (s.sendKind p m t).cfg = s.cfg := by
  unfold State.sendKind
  split
  · rfl
  · exact s.sendMask_cfg p m t

@[simp] theorem acquire_cfg (p : Pack) : (s.acquire p).cfg = s.cfg := by
  obtain ⟨-, -, -, -, -, -, -, hcfg, -⟩ := s.acquire_sameButPack p
  exact hcfg

@[simp] theorem rebuildMask_cfg (p : Pack) : (s.rebuildMask p).cfg = s.cfg := s.setMask_cfg p _

@[simp] theorem commitMask_cfg (p : Pack) : (s.commitMask p).cfg = s.cfg := s.sendMask_cfg p _ _

@[simp] theorem balancePack_cfg (p : Pack) : (s.balancePack p).cfg = s.cfg := by
  simp [State.balancePack]

@[simp] theorem trans_cfg (ign cp : Bool) : (s.trans ign cp).cfg = s.cfg := by
  obtain ⟨-, -, -, -, -, hcfg, -⟩ := s.trans_frame ign cp
  exact hcfg

@[simp] theorem pollInputs_cfg (ign cp : Bool) : (s.pollInputs ign cp).cfg = s.cfg := by
  simp [State.pollInputs]

@[simp] theorem drainMailbox_cfg : s.drainMailbox.cfg = s.cfg := by
  obtain ⟨-, hs⟩ | ⟨v, -, hs⟩ := s.drainMailbox_cases
  · rw [hs]
  · rw [hs, trans_cfg]

@[simp] theorem cycleAcquire_cfg : s.cycleAcquire.cfg = s.cfg := by
  unfold State.cycleAcquire
  split <;> simp

@[simp] theorem cycleActions_cfg : s.cycleActions.cfg = s.cfg := by
  unfold State.cycleActions
  split <;> simp

@[simp] theorem cycleBody_cfg (ign cp : Bool) : (s.cycleBody ign cp).cfg = s.cfg := by
  simp [State.cycleBody]

/-! Every instruction and every step. -/

/-- No instruction writes a parameter. The groups are the forms a meaning has: a body behind the HALTED check, a value
answered in any mode, a frame, and the halt. -/
theorem exec_cfg {i : Instr} {t : State} (h : exec i s = .next t) : t.cfg = s.cfg := by
  cases i with
  | xfer3 | seten | acq | push | pusht | balc | balw | poll | mdrain | cycle =>
    cases h
    apply unlessHalted_cfg
    simp
  | mpost cp =>
    cases h
    apply unlessHalted_cfg
    split <;> simp
  | avg p j =>
    cases h
    exact withCellArg_cfg (s.respond_cfg _ _)
  | avgt | ovq | uvq | balq | otq | statq | fltq | diagq | modeq | maskq =>
    cases h
    exact s.respond_cfg _ _
  | afeSample | afeSelect | afeBalset | afeSleep | afeWake =>
    cases h
    exact sendKind_cfg _ _ _
  | halt =>
    cases h
    simp

/-- No step writes a parameter: an idle wait and an ILLEGAL word keep them, and so does every instruction. -/
theorem step_cfg {t : State} (h : step s = .next t) : t.cfg = s.cfg := by
  obtain ⟨-, hs⟩ | ⟨_, _, _, -, -, hs⟩ | ⟨_, _, i, -, -, hs⟩ := step_cases s <;> rw [hs] at h
  · cases h
    rfl
  · cases h
    exact s.taken.refuse_cfg .illegal
  · exact (exec_cfg h).trans s.taken_cfg

end

/-- Settles O57: the step lemma `step_cfg` for every state. -/
theorem parametersNeverChange : Obligations.ParametersNeverChange := by
  intro _ _ h
  exact step_cfg h

end Sys2Proof.Proofs

/-! PROOFS. The opcode table (30_encoding.md R80): a row's mask is the opcode, the sub-function of a query and the reserved
bits of the row's format, so the rows a word matches are read from the fields the decoder reads. -/

namespace Sys2Proof.Proofs

open Sys2Proof
open Sys2Proof.Machine

/-! Fields and masks. -/

/-- The word with exactly the bits [hi:lo] set. -/
def fieldMask (hi lo : Nat) : Word := (BitVec.allOnes (hi - lo + 1)).setWidth 32 <<< lo

theorem getLsbD_fieldMask (hi lo k : Nat) :
    (fieldMask hi lo).getLsbD k = (decide (k < 32) && decide (lo ≤ k) && decide (k - lo < hi - lo + 1)) := by
  simp only [fieldMask, BitVec.getLsbD_shiftLeft, BitVec.getLsbD_setWidth, BitVec.getLsbD_allOnes]
  grind

/-- Two words agree on the field [hi:lo] exactly if they agree under its mask. -/
theorem extractLsb_eq_iff_and_fieldMask (v w : Word) (hi lo : Nat) :
    w.extractLsb hi lo = v.extractLsb hi lo ↔ w &&& fieldMask hi lo = v &&& fieldMask hi lo := by
  simp only [BitVec.eq_of_getLsbD_eq_iff, BitVec.getLsbD_and, BitVec.getLsbD_extractLsb, getLsbD_fieldMask]
  constructor
  · intro h k hk
    by_cases hin : lo ≤ k ∧ k - lo < hi - lo + 1
    · have hbit := h (k - lo) hin.2
      rw [show lo + (k - lo) = k by omega] at hbit
      simpa [hin, hk] using hbit
    · grind
  · intro h k hk
    by_cases hin : lo + k < 32
    · have hbit := h (lo + k) hin
      grind
    · grind

/-- Agreement under two masks together is agreement under each. -/
theorem and_or_eq_iff (v w m n : Word) :
    w &&& (m ||| n) = v &&& (m ||| n) ↔ w &&& m = v &&& m ∧ w &&& n = v &&& n := by
  simp only [BitVec.eq_of_getLsbD_eq_iff, BitVec.getLsbD_and, BitVec.getLsbD_or]
  grind

/-- The word with exactly the bits of the listed fields [hi:lo] set. -/
def fieldsMask : List (Nat × Nat) → Word
  | [] => 0#32
  | r :: rs => fieldMask r.1 r.2 ||| fieldsMask rs

theorem extractLsb_eq_zero_iff (w : Word) (hi lo : Nat) :
    w.extractLsb hi lo = 0 ↔ w &&& fieldMask hi lo = 0#32 := by
  have hzero : (0#32).extractLsb hi lo = 0 := BitVec.extractLsb'_zero
  rw [← hzero, extractLsb_eq_iff_and_fieldMask, BitVec.zero_and]

theorem fields_zero_iff_and_fieldsMask (rs : List (Nat × Nat)) (w : Word) :
    (∀ r ∈ rs, w.extractLsb r.1 r.2 = 0) ↔ w &&& fieldsMask rs = 0#32 := by
  induction rs with
  | nil => simp [fieldsMask]
  | cons r rs ih =>
    have hor := and_or_eq_iff 0#32 w (fieldMask r.1 r.2) (fieldsMask rs)
    simp only [BitVec.zero_and] at hor
    rw [List.forall_mem_cons, ih, extractLsb_eq_zero_iff, fieldsMask, hor]

theorem reservedClear_iff_and_fieldsMask (f : Format) (w : Word) :
    reservedClear f w = true ↔ w &&& fieldsMask f.reserved = 0#32 := by
  rw [← fields_zero_iff_and_fieldsMask]
  simp [reservedClear]

/-- Some reserved bit is set exactly if the reserved fields of the word's format are not clear. -/
theorem reservedBitSet_iff (w : Word) :
    reservedBitSet w ↔ ∃ f, wordFormat w = some f ∧ reservedClear f w = false := by
  simp [reservedBitSet, reservedClear]

theorem decodeAs_ok_iff (f : Format) (w : Word) (i j : Instr) :
    decodeAs f w i = .ok j ↔ reservedClear f w = true ∧ i = j := by
  unfold decodeAs
  split <;> simp [*]

/-! What selects a row: the opcode, and the sub-function of a query (R78, R79). -/

/-- The words v and w have the same opcode and, if that is a query's, the same sub-function. -/
def SameSelector (v w : Word) : Prop :=
  w.extractLsb 31 28 = v.extractLsb 31 28 ∧ (v.extractLsb 31 28 = 8 → w.extractLsb 3 0 = v.extractLsb 3 0)

/-- The bits SameSelector looks at, under the opcode of v. -/
def selectorMask (v : Word) : Word :=
  if v.extractLsb 31 28 = 8 then fieldMask 31 28 ||| fieldMask 3 0 else fieldMask 31 28

theorem sameSelector_iff_and_selectorMask (v w : Word) :
    SameSelector v w ↔ w &&& selectorMask v = v &&& selectorMask v := by
  unfold SameSelector selectorMask
  split
  next hquery => simp [hquery, and_or_eq_iff, ← extractLsb_eq_iff_and_fieldMask]
  next hother =>
    rw [← extractLsb_eq_iff_and_fieldMask]
    exact and_iff_left fun h => absurd h hother

/-- The format is the same for words with the same selector. -/
theorem SameSelector.wordFormat_eq {v w : Word} (h : SameSelector v w) : wordFormat w = wordFormat v := by
  obtain ⟨hop, hsub⟩ := h
  unfold wordFormat
  rw [hop]
  split <;> try rfl
  next hquery => rw [hsub (BitVec.eq_of_toNat_eq hquery)]

/-! The table against the formats. -/

/-- Every row's mask is made of its selector's bits and the reserved bits of its format, and its match has these clear. -/
theorem commandTable_masks :
    ∀ r ∈ commandTable, ∃ f ∈ wordFormat r.2.1,
      r.2.2 = selectorMask r.2.1 ||| fieldsMask f.reserved ∧ r.2.1 &&& r.2.2 = r.2.1 ∧
        r.2.1 &&& fieldsMask f.reserved = 0#32 := by
  decide +kernel

/-- A word matches a row exactly if it has the row's selector and the reserved bits of its own format are clear. -/
theorem matches_row_iff {r : String × Word × Word} (hr : r ∈ commandTable) (w : Word) :
    w &&& r.2.2 = r.2.1 ↔ SameSelector r.2.1 w ∧ ∃ f, wordFormat w = some f ∧ reservedClear f w = true := by
  obtain ⟨f, hf, hmask, hmatch, hclear⟩ := commandTable_masks r hr
  have hagree : w &&& r.2.2 = r.2.1 ↔ SameSelector r.2.1 w ∧ w &&& fieldsMask f.reserved = 0#32 := by
    rw [sameSelector_iff_and_selectorMask, ← hclear, ← and_or_eq_iff, ← hmask, hmatch]
  rw [hagree, ← reservedClear_iff_and_fieldsMask]
  refine and_congr_right fun hsel => ?_
  rw [hsel.wordFormat_eq, hf]
  simp

/-- The rows' match sets are pairwise disjoint: no word agrees with two rows' matches under both masks (R80). -/
theorem commandTable_disjoint :
    ∀ r ∈ commandTable, ∀ r' ∈ commandTable, r.2.1 &&& r'.2.2 = r'.2.1 &&& r.2.2 → r' = r := by
  decide +kernel

theorem matching_row_unique {w : Word} {r r' : String × Word × Word} (hr : r ∈ commandTable) (hr' : r' ∈ commandTable)
    (h : w &&& r.2.2 = r.2.1) (h' : w &&& r'.2.2 = r'.2.1) : r' = r := by
  apply commandTable_disjoint r hr r' hr'
  rw [← h, ← h', BitVec.and_assoc, BitVec.and_assoc, BitVec.and_comm r.2.2]

/-! The decoder against the formats and the table. -/

/-- The row r is the row of the instruction i and has the selector of w. -/
def RowSelected (w : Word) (i : Instr) (r : String × Word × Word) : Prop :=
  r ∈ commandTable ∧ r.1 = i.mnemonic ∧ SameSelector r.2.1 w

/-- A command with an opcode of its own (R78). -/
theorem rowSelected_of_opcode {w : Word} {i : Instr} (k : Fin 23)
    (hop : (w.extractLsb 31 28).toNat = ((commandTable.get k).2.1.extractLsb 31 28).toNat)
    (hname : (commandTable.get k).1 = i.mnemonic) (hother : (commandTable.get k).2.1.extractLsb 31 28 ≠ 8) :
    ∃ r, RowSelected w i r :=
  ⟨_, commandTable.get_mem k, hname, BitVec.eq_of_toNat_eq hop, fun h => absurd h hother⟩

/-- A query, by its sub-function (R79). -/
theorem rowSelected_of_sub {w : Word} {i : Instr} (k : Fin 23)
    (hop : (w.extractLsb 31 28).toNat = ((commandTable.get k).2.1.extractLsb 31 28).toNat)
    (hsub : (w.extractLsb 3 0).toNat = ((commandTable.get k).2.1.extractLsb 3 0).toNat)
    (hname : (commandTable.get k).1 = i.mnemonic) : ∃ r, RowSelected w i r :=
  ⟨_, commandTable.get_mem k, hname, BitVec.eq_of_toNat_eq hop, fun _ => BitVec.eq_of_toNat_eq hsub⟩

/-- A query word either has a format, and is then read in it as the query of its row, or has a reserved sub-function. -/
theorem decodeQuery_cases {w : Word} (hop : (w.extractLsb 31 28).toNat = 8) :
    (∃ f i, queryFormat (w.extractLsb 3 0).toNat = some f ∧ decodeQuery w = decodeAs f w i ∧ ∃ r, RowSelected w i r) ∨
      queryFormat (w.extractLsb 3 0).toNat = none ∧ ∃ e, decodeQuery w = .error e := by
  unfold decodeQuery
  split
  next hsub => exact .inl ⟨_, _, by rw [hsub]; rfl, rfl, rowSelected_of_sub 7 hop hsub rfl⟩
  next hsub => exact .inl ⟨_, _, by rw [hsub]; rfl, rfl, rowSelected_of_sub 8 hop hsub rfl⟩
  next hsub => exact .inl ⟨_, _, by rw [hsub]; rfl, rfl, rowSelected_of_sub 9 hop hsub rfl⟩
  next hsub => exact .inl ⟨_, _, by rw [hsub]; rfl, rfl, rowSelected_of_sub 10 hop hsub rfl⟩
  next hsub => exact .inl ⟨_, _, by rw [hsub]; rfl, rfl, rowSelected_of_sub 11 hop hsub rfl⟩
  next hsub => exact .inl ⟨_, _, by rw [hsub]; rfl, rfl, rowSelected_of_sub 12 hop hsub rfl⟩
  next hsub => exact .inl ⟨_, _, by rw [hsub]; rfl, rfl, rowSelected_of_sub 13 hop hsub rfl⟩
  next hsub => exact .inl ⟨_, _, by rw [hsub]; rfl, rfl, rowSelected_of_sub 14 hop hsub rfl⟩
  next hsub => exact .inl ⟨_, _, by rw [hsub]; rfl, rfl, rowSelected_of_sub 15 hop hsub rfl⟩
  next => exact .inr ⟨by unfold queryFormat; grind, _, rfl⟩

/-- A word either has a format, and is then read in it as the command of its row, or is an error. -/
theorem decode_cases (w : Word) :
    (∃ f i, wordFormat w = some f ∧ decode w = decodeAs f w i ∧ ∃ r, RowSelected w i r) ∨
      wordFormat w = none ∧ ∃ e, decode w = .error e := by
  unfold decode
  split
  next hop => exact .inl ⟨_, _, by simp only [wordFormat, hop], rfl, rowSelected_of_opcode 0 hop rfl (by decide)⟩
  next hop => exact .inl ⟨_, _, by simp only [wordFormat, hop], rfl, rowSelected_of_opcode 1 hop rfl (by decide)⟩
  next hop => exact .inl ⟨_, _, by simp only [wordFormat, hop], rfl, rowSelected_of_opcode 2 hop rfl (by decide)⟩
  next hop => exact .inl ⟨_, _, by simp only [wordFormat, hop], rfl, rowSelected_of_opcode 3 hop rfl (by decide)⟩
  next hop => exact .inl ⟨_, _, by simp only [wordFormat, hop], rfl, rowSelected_of_opcode 4 hop rfl (by decide)⟩
  next hop => exact .inl ⟨_, _, by simp only [wordFormat, hop], rfl, rowSelected_of_opcode 5 hop rfl (by decide)⟩
  next hop => exact .inl ⟨_, _, by simp only [wordFormat, hop], rfl, rowSelected_of_opcode 6 hop rfl (by decide)⟩
  next hop =>
    have hformat : wordFormat w = queryFormat (w.extractLsb 3 0).toNat := by simp only [wordFormat, hop]
    rw [hformat]
    exact decodeQuery_cases hop
  next hop => exact .inl ⟨_, _, by simp only [wordFormat, hop], rfl, rowSelected_of_opcode 16 hop rfl (by decide)⟩
  next hop => exact .inl ⟨_, _, by simp only [wordFormat, hop], rfl, rowSelected_of_opcode 17 hop rfl (by decide)⟩
  next hop => exact .inl ⟨_, _, by simp only [wordFormat, hop], rfl, rowSelected_of_opcode 18 hop rfl (by decide)⟩
  next hop => exact .inl ⟨_, _, by simp only [wordFormat, hop], rfl, rowSelected_of_opcode 19 hop rfl (by decide)⟩
  next hop => exact .inl ⟨_, _, by simp only [wordFormat, hop], rfl, rowSelected_of_opcode 20 hop rfl (by decide)⟩
  next hop => exact .inl ⟨_, _, by simp only [wordFormat, hop], rfl, rowSelected_of_opcode 21 hop rfl (by decide)⟩
  next hop => exact .inl ⟨_, _, by simp only [wordFormat, hop], rfl, rowSelected_of_opcode 22 hop rfl (by decide)⟩
  next => exact .inr ⟨by unfold wordFormat; split <;> simp_all, _, rfl⟩

/-! Which words are ILLEGAL (R80). -/

/-- A word that is decoded matches the row of its instruction. -/
theorem row_of_decode_ok {w : Word} {i : Instr} (h : decode w = .ok i) :
    ∃ r ∈ commandTable, r.1 = i.mnemonic ∧ w &&& r.2.2 = r.2.1 := by
  obtain ⟨f, j, hf, hdec, r, hr, hname, hsel⟩ | ⟨-, e, herr⟩ := decode_cases w
  · rw [hdec, decodeAs_ok_iff] at h
    obtain ⟨hclear, rfl⟩ := h
    exact ⟨r, hr, hname, (matches_row_iff hr w).mpr ⟨hsel, f, hf, hclear⟩⟩
  · rw [herr] at h
    cases h

/-- A word is decoded exactly if it has a format and sets none of its reserved bits. -/
theorem decode_ok_iff (w : Word) :
    (∃ i, decode w = .ok i) ↔ ∃ f, wordFormat w = some f ∧ reservedClear f w = true := by
  obtain ⟨f, i, hf, hdec, -⟩ | ⟨hf, e, herr⟩ := decode_cases w
  · simp [hf, hdec, decodeAs_ok_iff]
  · simp [hf, herr]

/-- A word matches a row exactly if it is decoded. -/
theorem decoded_iff_row (w : Word) :
    (∃ i, decode w = .ok i) ↔ ∃ r ∈ commandTable, w &&& r.2.2 = r.2.1 := by
  constructor
  · rintro ⟨i, hi⟩
    obtain ⟨r, hr, -, hmatch⟩ := row_of_decode_ok hi
    exact ⟨r, hr, hmatch⟩
  · rintro ⟨r, hr, hmatch⟩
    obtain ⟨-, hformat⟩ := (matches_row_iff hr w).mp hmatch
    exact (decode_ok_iff w).mpr hformat

theorem no_row_iff_not_decoded (w : Word) :
    (∀ r ∈ commandTable, w &&& r.2.2 ≠ r.2.1) ↔ ¬ ∃ i, decode w = .ok i := by
  rw [decoded_iff_row]
  push Not
  rfl

theorem not_decoded_iff (w : Word) : (¬ ∃ i, decode w = .ok i) ↔ wordFormat w = none ∨ reservedBitSet w := by
  rw [decode_ok_iff, reservedBitSet_iff]
  cases wordFormat w <;> simp

theorem queryFormat_eq_none_iff (sub : Nat) : queryFormat sub = none ↔ 9 ≤ sub := by
  unfold queryFormat
  grind

/-- Only the opcode 0x0 and the query sub-functions 9 to 15 have no format (R78, R79). -/
theorem wordFormat_eq_none_iff (w : Word) :
    wordFormat w = none ↔ w.extractLsb 31 28 = 0 ∨ (w.extractLsb 31 28 = 8 ∧ 9 ≤ (w.extractLsb 3 0).toNat) := by
  have hlt : (w.extractLsb 31 28).toNat < 16 := (w.extractLsb 31 28).isLt
  simp only [← BitVec.toNat_inj]
  unfold wordFormat
  split
  case h_8 hop => simp [hop, queryFormat_eq_none_iff]
  case h_16 => exact iff_of_true rfl (.inl (by grind))
  all_goals simp [*]

/-- The step that takes a word the decoder refuses answers ILLEGAL, in every mode and halted or not (R80, R231). -/
theorem step_of_decode_error {w : Word} {e : DecodeError} (h : decode w = .error e) (s : State) (rest : List Word)
    (hcmds : s.cmds = w :: rest) :
    step s = .next { s with cmds := rest, resp := some { code := .illegal, value := 0 } } := by
  simp [step, State.fetched, hcmds, h, State.answerIllegal, State.taken, State.refuse, State.respond]

/-- Settles O3: a word that is decoded has the row of its instruction, unique since the rows are disjoint; the other words
have no row, and are those without a format or with a reserved bit set. -/
theorem everyWordHasItsRowOrIsIllegal : Obligations.EveryWordHasItsRowOrIsIllegal := by
  intro w
  refine ⟨?_, ?_⟩
  · cases hdec : decode w with
    | ok i =>
      obtain ⟨r, hr, hname, hmatch⟩ := row_of_decode_ok hdec
      exact .inl ⟨i, rfl, r, hr, hname, hmatch, fun r' hr' => matching_row_unique hr hr' hmatch⟩
    | error e =>
      exact .inr ⟨(no_row_iff_not_decoded w).mpr (by simp [hdec]), step_of_decode_error hdec⟩
  · rw [no_row_iff_not_decoded, not_decoded_iff, wordFormat_eq_none_iff, or_assoc]

end Sys2Proof.Proofs

/-! PROOFS. The worked encodings (30_encoding.md R86) and the packing of a frame's response (R73). -/

namespace Sys2Proof.Proofs

open Sys2Proof
open Sys2Proof.Machine

/-- Settles O5: each of the six words, evaluated both ways. -/
theorem workedEncodingsHold : Obligations.WorkedEncodingsHold := by
  unfold Obligations.WorkedEncodingsHold
  decide

/-- The packing of three bytes puts them side by side, the first received lowest (R73). -/
theorem packReply_eq_append (r : AfeReply) : packReply r = r.r2 ++ r.r1 ++ r.r0 := by
  apply BitVec.eq_of_getLsbD_eq
  intro k hk
  simp only [packReply, BitVec.getLsbD_or, BitVec.getLsbD_shiftLeft, BitVec.getLsbD_setWidth, BitVec.getLsbD_append]
  have hbyte : k < 8 ∨ (8 ≤ k ∧ k < 16) ∨ 16 ≤ k := by omega
  obtain h0 | ⟨h0, h1⟩ | h1 := hbyte
  · simp [h0, hk, show k < 16 by omega]
  · have hr0 : r.r0.getLsbD k = false := r.r0.getLsbD_of_ge k h0
    simp [hk, h1, hr0, show ¬k < 8 by omega, show k - 8 < 8 by omega, show k - 8 < 24 by omega]
  · have hr0 : r.r0.getLsbD k = false := r.r0.getLsbD_of_ge k (by omega)
    have hr1 : r.r1.getLsbD (k - 8) = false := r.r1.getLsbD_of_ge (k - 8) (by omega)
    simp [hk, hr0, hr1, Nat.sub_sub, show ¬k < 16 by omega, show ¬k < 8 by omega, show ¬k - 8 < 8 by omega,
      show k - 16 < 24 by omega]

theorem packReply_byte0 (r : AfeReply) : (packReply r).extractLsb 7 0 = r.r0 := by
  rw [packReply_eq_append]
  exact BitVec.extractLsb'_append_eq_right

theorem packReply_byte1 (r : AfeReply) : (packReply r).extractLsb 15 8 = r.r1 := by
  rw [packReply_eq_append]
  exact (BitVec.extractLsb'_append_eq_of_le (Nat.le_refl 8)).trans BitVec.extractLsb'_append_eq_right

theorem packReply_byte2 (r : AfeReply) : (packReply r).extractLsb 23 16 = r.r2 := by
  rw [packReply_eq_append]
  exact (BitVec.extractLsb'_append_eq_of_le (by decide : 8 ≤ 16)).trans BitVec.extractLsb'_append_eq_left

/-- Settles O10: the bytes are read back from the packing, and the low-byte test looks at the first of them. -/
theorem responseIsPackedLittleEndian : Obligations.ResponseIsPackedLittleEndian := by
  intro r
  have hlow : lowByteSet (packReply r) = true ↔ r.r0 ≠ 0 := by
    rw [lowByteSet, packReply_byte0, bne_iff_ne]
  exact ⟨rfl, packReply_byte0 r, packReply_byte1 r, packReply_byte2 r, hlow⟩

end Sys2Proof.Proofs

/-! PROOFS. The acquisition (42_acquisition.md R120 to R129): when ACQ runs, and the events its three stages append. -/

namespace Sys2Proof.Proofs

open Sys2Proof
open Sys2Proof.Machine

section
variable {s : State}

/-! When ACQ runs (R129). -/

theorem exec_acq_awake (p : Pack) (hrun : s.halted = false) (hmode : s.mode ≠ .standby) :
    exec (.acq p) s = .next (s.acquire p).done := by
  change Host.Outcome.next (s.unlessHalted _) = _
  rw [s.unlessHalted_running _ hrun, s.unlessStandby_awake _ hmode]

theorem exec_acq_standby (p : Pack) (hrun : s.halted = false) (hmode : s.mode = .standby) :
    exec (.acq p) s = .next (s.refuse .badMode) := by
  change Host.Outcome.next (s.unlessHalted _) = _
  rw [s.unlessHalted_running _ hrun, s.unlessStandby_standby _ hmode]

/-! The events of the stages (R121). -/

/-- The events of one cell of an acquisition: x is the cell's index, its select frame's response, and its code (R123). -/
def acqCellEvents (c : Config) (p : Pack) (m : Mask) (x : Nat × Word24 × Int) : List Event :=
  [.frame p (hiByte m) (loByte m) (c.selectByte x.1) x.2.1, .delay .muxSettle, .adc (c.adcChannel p) x.2.2]

theorem acqEvents_eq (c : Config) (p : Pack) (m : Mask) (first : Word24) (reads : List (Word24 × Int)) (last : Word24) :
    acqEvents c p m first reads last =
      [.frame p (hiByte m) (loByte m) c.ctrlSample first, .delay .sampleSettle] ++
        ((cellsDown c.numCells).zip reads).flatMap (acqCellEvents c p m) ++
        [.frame p (hiByte m) (loByte m) c.ctrlSample last] := rfl

@[simp] theorem length_cellsDown (n : Nat) : (cellsDown n).length = n := by simp [cellsDown]

@[simp] theorem acqSample_cfg (p : Pack) (m : Mask) : (acqSample s p m).st.cfg = s.cfg := rfl

theorem acqSample_trace (p : Pack) (m : Mask) :
    (acqSample s p m).st.trace =
      s.trace ++ [.frame p (hiByte m) (loByte m) s.cfg.ctrlSample s.nextRx, .delay .sampleSettle] := by
  simp [acqSample]

theorem acqCell_trace (p : Pack) (m : Mask) (a : AcqProgress) (j : Nat) :
    ∃ read, (acqCell p m a j).st.trace = a.st.trace ++ acqCellEvents a.st.cfg p m (j, read) :=
  ⟨(a.st.nextRx, ((a.st.sendMask p m (a.st.cfg.selectByte j)).delay .muxSettle).nextCode),
    by simp [acqCell, acqCellEvents]⟩

@[simp] theorem acqCell_cfg (p : Pack) (m : Mask) (a : AcqProgress) (j : Nat) :
    (acqCell p m a j).st.cfg = a.st.cfg := by
  simp [acqCell]

@[simp] theorem acqCells_cfg (p : Pack) (m : Mask) (js : List Nat) (a : AcqProgress) :
    (js.foldl (acqCell p m) a).st.cfg = a.st.cfg := by
  obtain ⟨-, -, -, -, -, -, -, hcfg, -⟩ := acqCells_sameButPack p m js a
  exact hcfg

/-- Any run of cells appends the events of each cell in the order of the run, with one free response and one code each. -/
theorem acqCells_trace (p : Pack) (m : Mask) (js : List Nat) (a : AcqProgress) :
    ∃ reads : List (Word24 × Int), reads.length = js.length ∧
      (js.foldl (acqCell p m) a).st.trace = a.st.trace ++ (js.zip reads).flatMap (acqCellEvents a.st.cfg p m) := by
  induction js generalizing a with
  | nil => exact ⟨[], rfl, by simp⟩
  | cons j js ih =>
    obtain ⟨read, hcell⟩ := acqCell_trace p m a j
    obtain ⟨reads, hlen, hcells⟩ := ih (acqCell p m a j)
    refine ⟨read :: reads, by simp [hlen], ?_⟩
    rw [List.foldl_cons, hcells, hcell, acqCell_cfg]
    simp

theorem acqFinish_trace (p : Pack) (m : Mask) (a : AcqProgress) :
    ∃ last, (acqFinish p m a).trace =
      a.st.trace ++ [.frame p (hiByte m) (loByte m) a.st.cfg.ctrlSample last] ++
        (if a.diag then [.diag p] else []) := by
  refine ⟨a.st.nextRx, ?_⟩
  unfold acqFinish
  dsimp only
  split <;> split <;> simp

theorem acqFinish_diag (p : Pack) (m : Mask) (a : AcqProgress) : ((acqFinish p m a).pack p).diag = a.diag := by
  unfold acqFinish
  dsimp only
  split <;> simp

/-- The trace a whole acquisition leaves, DIAG exactly where it set diag[p] (R121). -/
theorem acquire_trace (p : Pack) :
    ∃ (first last : Word24) (reads : List (Word24 × Int)), reads.length = s.cfg.numCells ∧
      (s.acquire p).trace = s.trace ++ acqEvents s.cfg p (s.mask p) first reads last ++
        (if ((s.acquire p).pack p).diag then [.diag p] else []) := by
  obtain ⟨reads, hlen, hcells⟩ :=
    acqCells_trace p (s.mask p) (cellsDown s.cfg.numCells) (acqSample s p (s.mask p))
  obtain ⟨last, hfinish⟩ := acqFinish_trace p (s.mask p)
    ((cellsDown s.cfg.numCells).foldl (acqCell p (s.mask p)) (acqSample s p (s.mask p)))
  refine ⟨s.nextRx, last, reads, by simpa using hlen, ?_⟩
  rw [State.acquire, acqFinish_diag, hfinish, hcells, acqSample_trace, acqEvents_eq, acqCells_cfg,
    acqSample_cfg]
  simp only [List.append_assoc]

/-! What the listed events are. -/

theorem length_acqEvents (c : Config) (p : Pack) (m : Mask) (first last : Word24) {reads : List (Word24 × Int)}
    (hlen : reads.length = c.numCells) : (acqEvents c p m first reads last).length = 3 * c.numCells + 3 := by
  have hcells : (((cellsDown c.numCells).zip reads).flatMap (acqCellEvents c p m)).length = 3 * c.numCells := by
    simp [List.length_flatMap, acqCellEvents, hlen, Nat.mul_comm]
  simp only [acqEvents_eq, List.length_append, hcells, List.length_cons, List.length_nil]
  omega

/-- Each listed event is a frame on pack p, a settle delay or a conversion. -/
theorem mem_acqEvents {c : Config} {p : Pack} {m : Mask} {first last : Word24} {reads : List (Word24 × Int)} {e : Event}
    (he : e ∈ acqEvents c p m first reads last) :
    (∃ a b d rx, e = .frame p a b d rx) ∨ (∃ k, e = .delay k) ∨ ∃ ch code, e = .adc ch code := by
  simp only [acqEvents_eq, acqCellEvents, List.mem_append, List.mem_flatMap, List.mem_cons, List.not_mem_nil,
    or_false] at he
  obtain ((rfl | rfl) | ⟨x, -, rfl | rfl | rfl⟩) | rfl := he <;> simp

/-- Every frame among the listed events and DIAG is on pack p, and none of them is EN or RADIO. -/
theorem acquired_event_on_pack {c : Config} {p : Pack} {m : Mask} {first last : Word24} {reads : List (Word24 × Int)}
    {d : Bool} {e : Event} (he : e ∈ acqEvents c p m first reads last ++ (if d then [.diag p] else [])) :
    (∀ q a b d rx, e = .frame q a b d rx → q = p) ∧ (∀ q v, e ≠ .en q v) ∧ ∀ v, e ≠ .radio v := by
  obtain hlisted | hdiag := List.mem_append.mp he
  · obtain ⟨a, b, d, rx, rfl⟩ | ⟨k, rfl⟩ | ⟨ch, code, rfl⟩ := mem_acqEvents hlisted <;> simp_all
  · obtain rfl : e = .diag p := by cases d <;> simp_all
    simp

theorem newEvents_of_append {t : State} {es : List Event} (h : t.trace = s.trace ++ es) : newEvents s t = es := by
  simp [newEvents, h]

end

/-- Settles O16: `acquire_trace` gives the trace, and each clause about the events is a fact about the list. -/
theorem acqTraceIsExact : Obligations.AcqTraceIsExact := by
  intro p s hrun hmode
  obtain ⟨first, last, reads, hlen, htrace⟩ := acquire_trace (s := s) p
  have hnew : newEvents s (s.acquire p).done = acqEvents s.cfg p (s.mask p) first reads last ++
      (if ((s.acquire p).pack p).diag then [.diag p] else []) :=
    newEvents_of_append (by rw [State.done_trace, htrace, List.append_assoc])
  refine ⟨(s.acquire p).done, first, last, reads, exec_acq_awake p hrun hmode, hlen, ?_,
    length_acqEvents s.cfg p _ first last hlen, ?_⟩
  · simpa using htrace
  · rw [hnew]
    exact fun e => acquired_event_on_pack

/-- Settles O18: the mode gate lets DRIVING and CHARGING through, and the body ends with OK. -/
theorem acqRunsOutsideStandbyOnly : Obligations.AcqRunsOutsideStandbyOnly := by
  intro p s hrun
  refine ⟨exec_acq_standby p hrun, fun hmode => ⟨_, exec_acq_awake p hrun ?_, State.done_resp _⟩⟩
  obtain h | h := hmode <;> simp [h]

end Sys2Proof.Proofs

/-! PROOFS. The ring buffer as a queue of its newest samples (43_filter.md R140, R146; 10_state.md R26): a push appends to
the window and, once the buffer is full, drops the window's oldest sample. -/

namespace Sys2Proof.Proofs

open Sys2Proof
open Sys2Proof.Machine

theorem cap_pos : 0 < cap := by decide

/-- The part of R26 that does not bound the values of the samples. -/
structure RingShape (b : Ring) : Prop where
  length_slots : b.slots.length = cap
  count_le : b.count ≤ cap
  head_lt : b.head < cap
  head_eq : b.count < cap → b.head = b.count
  sum_eq : b.sum = b.window.sum

theorem wf_iff_ringShape (lo hi : Int) (b : Ring) :
    b.wf lo hi ↔ RingShape b ∧ ∀ x ∈ b.slots, lo ≤ x ∧ x ≤ hi := by
  constructor
  · rintro ⟨hlen, hcount, hlt, hhead, hsum, hvalues⟩
    exact ⟨⟨hlen, hcount, hlt, hhead, hsum⟩, hvalues⟩
  · rintro ⟨⟨hlen, hcount, hlt, hhead, hsum⟩, hvalues⟩
    exact ⟨hlen, hcount, hlt, hhead, hsum, hvalues⟩

theorem ringShape_empty : RingShape Ring.empty :=
  ((wf_iff_ringShape 0 0 Ring.empty).mp (by decide)).1

/-! The window of a list of slots. -/

/-- While no sample has been evicted, the valid samples are the slots below the count. -/
theorem window_of_head_zero {b : Ring} (h : cap ≤ b.count → b.head = 0 ∧ b.slots.length = b.count) :
    b.window = b.slots.take b.count := by
  unfold Ring.window
  split
  · rfl
  · obtain ⟨hhead, hlen⟩ := h (by omega)
    simp [hhead, ← hlen]

/-- A full buffer's window starts at the slot the next push overwrites. -/
theorem window_of_full {b : Ring} (hfull : cap ≤ b.count) (hhead : b.head < b.slots.length) :
    b.window = b.slots.getD b.head 0 :: (b.slots.drop (b.head + 1) ++ b.slots.take b.head) := by
  rw [Ring.window, if_neg (Nat.not_lt.mpr hfull), List.drop_eq_getElem_cons hhead, List.getD_eq_getElem _ _ hhead,
    List.cons_append]

/-- Writing the slot after the first k appends to them. -/
theorem take_succ_set (l : List Int) {k : Nat} (hk : k < l.length) (x : Int) :
    (l.set k x).take (k + 1) = l.take k ++ [x] := by
  rw [List.take_succ_eq_append_getElem (by simpa using hk), List.take_set_of_le le_rfl, List.getElem_set_self]

namespace RingShape

variable {b : Ring}

theorem length_window (h : RingShape b) : b.window.length = b.count := by
  have hcount := h.count_le
  unfold Ring.window
  split <;> simp [h.length_slots] <;> omega

/-! What a push does to a sound buffer. -/

theorem push_count (h : RingShape b) (x : Int) : (b.push x).count = min (b.count + 1) cap := by
  have hcount := h.count_le
  by_cases hfill : b.count < cap
  · rw [b.push_filling x hfill]
    exact (Nat.min_eq_left hfill).symm
  · rw [b.push_evicting x (Nat.not_lt.mp hfill)]
    show b.count = _
    omega

theorem window_push_filling (h : RingShape b) (x : Int) (hfill : b.count < cap) :
    (b.push x).window = b.window ++ [x] := by
  have hhead := h.head_eq hfill
  have hlen := h.length_slots
  have hold : b.window = b.slots.take b.count := if_pos hfill
  rw [b.push_filling x hfill, window_of_head_zero, hold, hhead, take_succ_set _ (by omega)]
  intro hfull
  have hlast : b.count + 1 = cap := Nat.le_antisymm hfill hfull
  simp [hhead, hlast, hlen]

theorem window_push_evicting (h : RingShape b) (x : Int) (hfull : cap ≤ b.count) :
    (b.push x).window = b.window.tail ++ [x] := by
  have hlt : b.head < b.slots.length := by rw [h.length_slots]; exact h.head_lt
  have hlen : (b.slots.set b.head x).length = cap := by rw [List.length_set, h.length_slots]
  calc (b.push x).window
      = (b.slots.set b.head x).drop ((b.head + 1) % cap) ++ (b.slots.set b.head x).take ((b.head + 1) % cap) := by
        rw [b.push_evicting x hfull]
        exact if_neg (Nat.not_lt.mpr hfull)
    _ = (b.slots.set b.head x).rotate (b.head + 1) := by
        rw [List.rotate_eq_drop_append_take_mod, hlen]
    _ = (b.slots.set b.head x).drop (b.head + 1) ++ (b.slots.set b.head x).take (b.head + 1) :=
        List.rotate_eq_drop_append_take (by simpa using hlt)
    _ = b.window.tail ++ [x] := by
        rw [window_of_full hfull hlt, take_succ_set _ hlt, List.drop_set_of_lt (Nat.lt_succ_self _)]
        simp

theorem push_sum (h : RingShape b) (x : Int) : (b.push x).sum = (b.push x).window.sum := by
  by_cases hfill : b.count < cap
  · rw [h.window_push_filling x hfill, b.push_filling x hfill]
    simp [h.sum_eq]
  · have hfull := Nat.not_lt.mp hfill
    have hlt : b.head < b.slots.length := by rw [h.length_slots]; exact h.head_lt
    rw [h.window_push_evicting x hfull, b.push_evicting x hfull]
    simp [h.sum_eq, window_of_full hfull hlt, add_assoc]

/-- A push keeps the buffer sound, whatever the sample. -/
theorem push (h : RingShape b) (x : Int) : RingShape (b.push x) where
  length_slots := by rw [Ring.push_slots, List.length_set, h.length_slots]
  count_le := by rw [h.push_count]; exact Nat.min_le_right _ _
  head_lt := Nat.mod_lt _ cap_pos
  head_eq := by
    rw [h.push_count, Ring.push_head]
    intro hlt
    have hfill : b.count + 1 < cap := by omega
    rw [h.head_eq (Nat.lt_of_succ_lt hfill), Nat.mod_eq_of_lt hfill, Nat.min_eq_left hfill.le]
  sum_eq := h.push_sum x

end RingShape

/-! The history of an empty buffer (R146). -/

theorem length_lastSamples (xs : List Int) : (lastSamples xs).length = min xs.length cap := by
  rw [lastSamples, List.length_drop]
  omega

/-- One more sample: the last CAP of a short history grow, those of a long one slide. -/
theorem lastSamples_append_singleton (xs : List Int) (x : Int) :
    lastSamples (xs ++ [x]) =
      if (lastSamples xs).length < cap then lastSamples xs ++ [x] else (lastSamples xs).tail ++ [x] := by
  rw [length_lastSamples]
  split
  next hshort =>
    have hlen : xs.length < cap := by omega
    rw [lastSamples, lastSamples, List.length_append, Nat.sub_eq_zero_of_le hlen.le,
      Nat.sub_eq_zero_of_le (by simpa using hlen)]
    simp
  next hlong =>
    have hlen : cap ≤ xs.length := by omega
    have hdrop : xs.length - cap + 1 ≤ xs.length := by have := cap_pos; omega
    rw [lastSamples, lastSamples, List.tail_drop, List.length_append, List.length_singleton,
      Nat.sub_add_comm hlen, List.drop_append_of_le_length hdrop]

/-- Every history leaves a sound buffer that holds its last CAP samples, by induction on the pushes. -/
theorem pushes_hold_lastSamples (xs : List Int) :
    RingShape (xs.foldl Ring.push Ring.empty) ∧ (xs.foldl Ring.push Ring.empty).window = lastSamples xs := by
  induction xs using List.reverseRecOn with
  | nil => exact ⟨ringShape_empty, rfl⟩
  | append_singleton xs x ih =>
    obtain ⟨hshape, hwindow⟩ := ih
    rw [List.foldl_append, List.foldl_cons, List.foldl_nil, lastSamples_append_singleton, ← hwindow,
      hshape.length_window]
    refine ⟨hshape.push x, ?_⟩
    split
    next hfill => exact hshape.window_push_filling x hfill
    next hfull => exact hshape.window_push_evicting x (Nat.not_lt.mp hfull)

/-- The mean of a sound buffer is the arithmetic mean of its window (R148, R149). -/
theorem RingShape.meanVolts_eq {b : Ring} (h : RingShape b) (c : Config) :
    b.meanVolts c =
      if b.window = [] then none else some ((b.window.sum : ℚ) / (b.window.length : ℚ) * c.scale) := by
  rw [Ring.meanVolts, h.sum_eq, ← h.length_window, div_mul_eq_mul_div]
  simp only [List.length_eq_zero_iff]

theorem lastSamples_eq_nil_iff (xs : List Int) : lastSamples xs = [] ↔ xs = [] := by
  rw [← List.length_eq_zero_iff, ← List.length_eq_zero_iff, length_lastSamples]
  have := cap_pos
  omega

/-- Settles O24: `pushes_hold_lastSamples` gives the window, and a sound buffer's sum, count and mean are its window's. -/
theorem meanIsOverTheLastTwentySamples : Obligations.MeanIsOverTheLastTwentySamples := by
  intro c xs
  obtain ⟨hshape, hwindow⟩ := pushes_hold_lastSamples xs
  refine ⟨hwindow, ?_, ?_, ?_⟩
  · rw [hshape.sum_eq, hwindow]
  · rw [← hshape.length_window, hwindow, length_lastSamples]
  · rw [hshape.meanVolts_eq, hwindow]
    simp only [lastSamples_eq_nil_iff]

end Sys2Proof.Proofs

/-! PROOFS. The comparator (44_comparator.md R160 to R170): what a query answers, which state the flags read, and which of
them can hold together. -/

namespace Sys2Proof.Proofs

open Sys2Proof
open Sys2Proof.Machine

section
variable {s t : State}

/-! The queries (R166). -/

/-- A query answers OK with some value and writes nothing but the response: each has the form `respond .ok`. -/
theorem exec_query {i : Instr} (h : isQuery i = true) : ∃ v, exec i s = .next (s.respond .ok v) := by
  cases i with
  | ovq | uvq | balq | otq | statq | fltq | diagq | modeq | maskq => exact ⟨_, rfl⟩
  | xfer3 | seten | acq | push | pusht | avg | avgt | balc | balw | poll | mpost | mdrain | cycle | halt
  | afeSample | afeSelect | afeBalset | afeSleep | afeWake => exact absurd h Bool.false_ne_true

/-! What the voltage flags read: the parameters and the cell buffers. -/

theorem anyCell_eq_true_iff {p : Pack} {f : Ring → Bool} :
    s.anyCell p f = true ↔ ∃ j < s.cfg.numCells, f (s.cell p j) = true := by
  simp [State.anyCell]

theorem anyCell_congr (hcfg : t.cfg = s.cfg) (hcell : ∀ p j, t.cell p j = s.cell p j) (p : Pack) (f : Ring → Bool) :
    t.anyCell p f = s.anyCell p f := by
  simp only [State.anyCell, hcfg, hcell]

theorem overVoltage_congr (hcfg : t.cfg = s.cfg) (hcell : ∀ p j, t.cell p j = s.cell p j) :
    t.overVoltage = s.overVoltage := by
  simp only [State.overVoltage, anyCell_congr hcfg hcell, hcfg]

theorem underVoltage_congr (hcfg : t.cfg = s.cfg) (hcell : ∀ p j, t.cell p j = s.cell p j) :
    t.underVoltage = s.underVoltage := by
  simp only [State.underVoltage, anyCell_congr hcfg hcell, hcfg]

@[simp] theorem setTot_cell (p q : Pack) (b : Ring) (j : Nat) : (s.setTot p b).cell q j = s.cell q j := by
  cases p <;> cases q <;> rfl

/-! The voltage flags as the rules write them (R160, R161). -/

theorem exists_pack_iff {P : Pack → Prop} : (∃ p, P p) ↔ P .p0 ∨ P .p1 := by
  constructor
  · rintro ⟨_ | _, h⟩
    · exact .inl h
    · exact .inr h
  · rintro (h | h) <;> exact ⟨_, h⟩

theorem overVoltage_iff (hlegal : s.cfg.legal) :
    s.overVoltage = true ↔ ∃ p, ∃ j < s.cfg.numCells, (s.cell p j).isOver s.cfg := by
  simp only [State.overVoltage, Bool.or_eq_true, anyCell_eq_true_iff, Ring.atLeastUpper_iff_isOver _ hlegal,
    exists_pack_iff]

theorem underVoltage_iff (hlegal : s.cfg.legal) :
    s.underVoltage = true ↔ ∃ p, ∃ j < s.cfg.numCells, (s.cell p j).isUnder s.cfg := by
  simp only [State.underVoltage, Bool.or_eq_true, anyCell_eq_true_iff, Ring.belowLower_iff_isUnder _ hlegal,
    exists_pack_iff]

end

/-! Which comparisons one buffer can satisfy (R170). -/

section
variable {c : Config} {b : Ring}

theorem vLo_lt_vUp : vLo < vUp := by
  norm_num [vLo, vUp]

/-- The scaled sum would be at least V_UP * count and below V_LO * count, but V_LO < V_UP. -/
theorem not_isOver_and_isUnder : ¬ (b.isOver c ∧ b.isUnder c) := by
  rintro ⟨⟨-, hover⟩, -, hunder⟩
  have hle : vLo * (b.count : ℚ) ≤ vUp * b.count := mul_le_mul_of_nonneg_right vLo_lt_vUp.le b.count.cast_nonneg
  exact (hunder.trans_le (hle.trans hover)).false

/-- A mean below V_UP is not over-voltage. -/
theorem not_isOver_of_mean_lt {v : ℚ} (hv : v < vUp) (hmean : 0 < b.count → (b.sum : ℚ) * c.scale = v * b.count) :
    ¬ b.isOver c := by
  rintro ⟨hcount, hover⟩
  rw [hmean hcount] at hover
  exact (mul_lt_mul_of_pos_right hv (Nat.cast_pos.mpr hcount)).not_ge hover

/-- A mean of at least V_LO is not under-voltage. -/
theorem not_isUnder_of_le_mean {v : ℚ} (hv : vLo ≤ v) (hmean : 0 < b.count → (b.sum : ℚ) * c.scale = v * b.count) :
    ¬ b.isUnder c := by
  rintro ⟨hcount, hunder⟩
  rw [hmean hcount] at hunder
  exact (mul_le_mul_of_nonneg_right hv b.count.cast_nonneg).not_gt hunder

end

/-! A state with all three flags (R170). -/

/-- Two cells of pack 0 hold one sample each, at 4.15 V and just below 3.4 V, and BALC's body has rebuilt the mask. -/
def unbalancedCharging : State :=
  ((((State.resetWith Config.default).setMode .charging).pushCell .p0 0 2075).pushCell .p0 1 1699).rebuildMask .p0

theorem default_legal : Config.default.legal := by decide

theorem unbalancedCharging_mask : unbalancedCharging.mask .p0 = 0x8000 := by decide

/-- The two samples are 16-bit codes, the rest is as at reset, and the one mask bit is cell 0's. -/
theorem unbalancedCharging_inv : unbalancedCharging.inv := by
  have hpack0 : unbalancedCharging.pack0.wf Config.default := by decide
  have hpack1 : unbalancedCharging.pack1.wf Config.default := by decide
  exact ⟨default_legal, hpack0, hpack1, by decide, by decide⟩

theorem unbalancedCharging_isOver : (unbalancedCharging.cell .p0 0).isOver Config.default :=
  (Ring.atLeastUpper_iff_isOver _ default_legal _).mp (by decide)

theorem unbalancedCharging_isUnder : (unbalancedCharging.cell .p0 1).isUnder Config.default :=
  (Ring.belowLower_iff_isUnder _ default_legal _).mp (by decide)

theorem unbalancedCharging_balancing : unbalancedCharging.balancing = true := by
  simp [State.balancing, unbalancedCharging_mask]

/-- Settles O35: every query has the form `respond .ok`, and a total buffer is neither a parameter nor a cell buffer. -/
theorem queriesArePure : Obligations.QueriesArePure := by
  refine ⟨fun i s h => exec_query h, fun s a b => ?_⟩
  have hcfg : ((s.setTot .p0 a).setTot .p1 b).cfg = s.cfg := by simp
  have hcell : ∀ p j, ((s.setTot .p0 a).setTot .p1 b).cell p j = s.cell p j := by simp
  exact ⟨overVoltage_congr hcfg hcell, underVoltage_congr hcfg hcell⟩

/-- Settles O36: `unbalancedCharging` has all three flags; the other clauses compare 19/5 V and the two thresholds. -/
theorem flagCombinations : Obligations.FlagCombinations := by
  refine ⟨⟨unbalancedCharging, unbalancedCharging_inv, ?_, ?_, unbalancedCharging_balancing⟩,
    fun _ _ _ => not_isOver_and_isUnder, fun s hlegal hmean => ⟨?_, ?_⟩⟩
  · exact (overVoltage_iff default_legal).mpr ⟨.p0, 0, by decide, unbalancedCharging_isOver⟩
  · exact (underVoltage_iff default_legal).mpr ⟨.p0, 1, by decide, unbalancedCharging_isUnder⟩
  · rw [← Bool.not_eq_true, overVoltage_iff hlegal]
    rintro ⟨p, j, hj, hover⟩
    exact not_isOver_of_mean_lt (by norm_num [vUp]) (hmean p j hj) hover
  · rw [← Bool.not_eq_true, underVoltage_iff hlegal]
    rintro ⟨p, j, hj, hunder⟩
    exact not_isUnder_of_le_mean (by norm_num [vLo]) (hmean p j hj) hunder

end Sys2Proof.Proofs

/-! PROOFS. The cell-discharge selector (45_balance.md R180 to R185): when BALC and BALW run, which bits the rebuilt mask
holds, and that it is not zero exactly when a cell meets OV's comparison. -/

namespace Sys2Proof.Proofs

open Sys2Proof
open Sys2Proof.Machine

section
variable {s t : State}

/-! When BALC and BALW run (R182). -/

theorem exec_balc_charging (p : Pack) (hrun : s.halted = false) (hmode : s.mode = .charging) :
    exec (.balc p) s = .next (s.rebuildMask p).done := by
  change Host.Outcome.next (s.unlessHalted _) = _
  rw [s.unlessHalted_running _ hrun, s.onlyCharging_charging _ hmode]

theorem exec_balc_other (p : Pack) (hrun : s.halted = false) (hmode : s.mode ≠ .charging) :
    exec (.balc p) s = .next (s.refuse .badMode) := by
  change Host.Outcome.next (s.unlessHalted _) = _
  rw [s.unlessHalted_running _ hrun, s.onlyCharging_other _ hmode]

theorem exec_balw_charging (p : Pack) (hrun : s.halted = false) (hmode : s.mode = .charging) :
    exec (.balw p) s = .next (s.commitMask p).done := by
  change Host.Outcome.next (s.unlessHalted _) = _
  rw [s.unlessHalted_running _ hrun, s.onlyCharging_charging _ hmode]

theorem exec_balw_other (p : Pack) (hrun : s.halted = false) (hmode : s.mode ≠ .charging) :
    exec (.balw p) s = .next (s.refuse .badMode) := by
  change Host.Outcome.next (s.unlessHalted _) = _
  rw [s.unlessHalted_running _ hrun, s.onlyCharging_other _ hmode]

/-! What rebuilding a mask leaves (R180). -/

@[simp] theorem rebuildMask_mode (p : Pack) : (s.rebuildMask p).mode = s.mode := s.setMask_mode p _
@[simp] theorem rebuildMask_halted (p : Pack) : (s.rebuildMask p).halted = s.halted := s.setMask_halted p _

@[simp] theorem rebuildMask_mask_same (p : Pack) : (s.rebuildMask p).mask p = s.dischargeMask p := by
  simp [State.rebuildMask, State.mask_eq]

theorem rebuildMask_mask_other {p q : Pack} (h : q ≠ p) : (s.rebuildMask p).mask q = s.mask q := by
  simp only [State.rebuildMask, State.mask_eq, s.setMask_pack_other p _ h]

@[simp] theorem rebuildMask_cell (p q : Pack) (j : Nat) : (s.rebuildMask p).cell q j = s.cell q j := by
  simp only [State.rebuildMask, State.cell_eq, State.setMask_pack]
  split
  · next h => rw [h]
  · rfl

end

/-! Masks built bit by bit, for the cells in increasing order. -/

/-- The mask with bit 15 - j for each cell j below n that satisfies f: the loop of R180 for any condition and any bound. -/
def cellsMask (f : Nat → Bool) (n : Nat) : Mask :=
  (List.range n).foldl (fun m j => if f j then m ||| (1#16 <<< cellbit j) else m) 0

theorem cellsMask_zero (f : Nat → Bool) : cellsMask f 0 = 0 := rfl

theorem cellsMask_succ (f : Nat → Bool) (n : Nat) :
    cellsMask f (n + 1) = if f n then cellsMask f n ||| (1#16 <<< cellbit n) else cellsMask f n := by
  simp [cellsMask, List.range_succ]

/-- Two cells of a 16-bit mask have the same bit only if they are the same cell. -/
theorem getLsbD_one_shiftLeft_cellbit {n j : Nat} (hn : n < 16) (hj : j < 16) :
    (1#16 <<< cellbit n).getLsbD (15 - j) = true ↔ j = n := by
  simp only [cellbit, BitVec.getLsbD_shiftLeft, BitVec.getLsbD_one, Bool.and_eq_true, Bool.not_eq_true',
    decide_eq_true_eq, decide_eq_false_iff_not]
  omega

/-- The bits of the mask after the loop, by induction on its length. -/
theorem getLsbD_cellsMask (f : Nat → Bool) {n j : Nat} (hn : n ≤ 16) (hj : j < 16) :
    (cellsMask f n).getLsbD (15 - j) = true ↔ j < n ∧ f j = true := by
  induction n with
  | zero => simp [cellsMask_zero]
  | succ n ih =>
    rw [Nat.lt_succ_iff_lt_or_eq, or_and_right, ← ih (by omega), cellsMask_succ]
    split
    · next hset =>
      have hself : j = n ∧ f j = true ↔ j = n := and_iff_left_of_imp (by rintro rfl; exact hset)
      rw [BitVec.getLsbD_or, Bool.or_eq_true, getLsbD_one_shiftLeft_cellbit hn hj, hself]
    · next hclear =>
      have hself : ¬ (j = n ∧ f j = true) := by
        rintro ⟨rfl, hf⟩
        exact hclear hf
      rw [or_iff_left hself]

/-- A mask that is not zero has a bit, which is the bit of some cell. -/
theorem mask_ne_zero_iff {m : Mask} : m ≠ 0 ↔ ∃ j < 16, m.getLsbD (15 - j) = true := by
  constructor
  · intro h
    by_contra hnone
    push Not at hnone
    refine h (BitVec.eq_of_getLsbD_eq fun i hi => ?_)
    have hbit := hnone (15 - i) (by omega)
    rw [show 15 - (15 - i) = i by omega] at hbit
    simpa using hbit
  · rintro ⟨j, -, hbit⟩ rfl
    simp at hbit

section
variable {s t : State}

/-! The mask that BALC builds (R180, R183). -/

theorem dischargeMask_eq_cellsMask (p : Pack) :
    s.dischargeMask p = cellsMask (fun j => (s.cell p j).atLeastUpper s.cfg) s.cfg.numCells := rfl

theorem dischargeMask_congr (hcfg : t.cfg = s.cfg) (hcell : ∀ p j, t.cell p j = s.cell p j) (p : Pack) :
    t.dischargeMask p = s.dischargeMask p := by
  simp only [State.dischargeMask, hcfg, hcell]

/-- The bits of the rebuilt mask as the rule writes them: the cells the pack has, with OV's comparison in rationals. -/
theorem getLsbD_dischargeMask (hlegal : s.cfg.legal) (p : Pack) {j : Nat} (hj : j < 16) :
    (s.dischargeMask p).getLsbD (15 - j) = true ↔ j < s.cfg.numCells ∧ (s.cell p j).isOver s.cfg := by
  have ⟨_, hcells, _⟩ := hlegal
  rw [dischargeMask_eq_cellsMask, getLsbD_cellsMask _ hcells hj, Ring.atLeastUpper_iff_isOver _ hlegal]

theorem dischargeMask_ne_zero_iff (hlegal : s.cfg.legal) (p : Pack) :
    s.dischargeMask p ≠ 0 ↔ ∃ j < s.cfg.numCells, (s.cell p j).isOver s.cfg := by
  have ⟨_, hcells, _⟩ := hlegal
  rw [mask_ne_zero_iff]
  constructor
  · rintro ⟨j, hj, hbit⟩
    exact ⟨j, (getLsbD_dischargeMask hlegal p hj).mp hbit⟩
  · rintro ⟨j, hj, hover⟩
    have hj16 : j < 16 := by omega
    exact ⟨j, hj16, (getLsbD_dischargeMask hlegal p hj16).mpr ⟨hj, hover⟩⟩

/-! BAL, and the two BALCs in a row (R162, R184). -/

theorem balancing_iff : s.balancing = true ↔ ∃ p, s.mask p ≠ 0 := by
  simp [State.balancing, exists_pack_iff]

/-- What BALC 0 and then BALC 1 leave. -/
def afterBothBalc (s : State) : State := ((s.rebuildMask .p0).done.rebuildMask .p1).done

@[simp] theorem afterBothBalc_cfg : (afterBothBalc s).cfg = s.cfg := by simp [afterBothBalc]

@[simp] theorem afterBothBalc_cell (p : Pack) (j : Nat) : (afterBothBalc s).cell p j = s.cell p j := by
  simp [afterBothBalc]

/-- Both masks are the rebuilt ones: BALC 1 keeps what BALC 0 built, and reads the cells BALC 0 has kept. -/
@[simp] theorem afterBothBalc_mask (p : Pack) : (afterBothBalc s).mask p = s.dischargeMask p := by
  cases p with
  | p0 =>
    calc (afterBothBalc s).mask .p0
      _ = (s.rebuildMask .p0).done.mask .p0 := rebuildMask_mask_other (p := .p1) (q := .p0) (by decide)
      _ = s.dischargeMask .p0 := rebuildMask_mask_same .p0
  | p1 =>
    calc (afterBothBalc s).mask .p1
      _ = (s.rebuildMask .p0).done.dischargeMask .p1 := rebuildMask_mask_same .p1
      _ = s.dischargeMask .p1 := dischargeMask_congr (by simp) (by simp) .p1

/-- OV and BAL both say that some cell of some pack meets OV's comparison. -/
theorem afterBothBalc_overVoltage_eq_balancing (hlegal : s.cfg.legal) :
    (afterBothBalc s).overVoltage = (afterBothBalc s).balancing := by
  have hov : (afterBothBalc s).overVoltage = s.overVoltage :=
    overVoltage_congr afterBothBalc_cfg afterBothBalc_cell
  rw [hov, Bool.eq_iff_iff, overVoltage_iff hlegal, balancing_iff]
  simp only [afterBothBalc_mask, dischargeMask_ne_zero_iff hlegal]

end

/-- Settles O39: the mode gate in its two cases. -/
theorem balancingRunsInChargingOnly : Obligations.BalancingRunsInChargingOnly := by
  refine fun p s hrun => ⟨fun hmode => ?_, fun hmode => ?_⟩
  · exact ⟨⟨_, exec_balc_charging p hrun hmode, rfl⟩, _, exec_balw_charging p hrun hmode, rfl⟩
  · have hne : s.mode ≠ .charging := by
      obtain h | h := hmode <;> simp [h]
    exact ⟨exec_balc_other p hrun hne, exec_balw_other p hrun hne⟩

/-- Settles O40: the masks the two BALCs leave are the rebuilt ones, whose bits are OV's comparisons. -/
theorem afterBalcOverVoltageIsBalancing : Obligations.AfterBalcOverVoltageIsBalancing := by
  intro s hlegal hrun hmode
  have ⟨_, hcells, _⟩ := hlegal
  refine ⟨(s.rebuildMask .p0).done, afterBothBalc s, exec_balc_charging .p0 hrun hmode,
    exec_balc_charging .p1 (by simp [hrun]) (by simp [hmode]), fun p j hj => ?_,
    afterBothBalc_overVoltage_eq_balancing hlegal⟩
  rw [afterBothBalc_mask, getLsbD_dischargeMask hlegal p (by omega)]
  exact and_iff_right hj

end Sys2Proof.Proofs

/-! PROOFS. The mode controller (46_mode.md R190 to R200): the debouncer's run of disagreeing polls, the transition function
as its table with WAKE and SLEEP written out, and why constant inputs come to rest after two evaluations. -/

namespace Sys2Proof.Proofs

open Sys2Proof
open Sys2Proof.Machine

section
variable {s : State} {x : Bool}

/-! The debouncer (R190). -/

theorem debounce_agreeing (h : x = s.ignDb) : s.debounce x = { s with ignCnt := 0 } := by
  obtain ⟨-, hs⟩ | ⟨hne, -⟩ | ⟨hne, -⟩ := s.debounce_cases x
  · exact hs
  · exact absurd h hne
  · exact absurd h hne

theorem debounce_reaching (h : x ≠ s.ignDb) (hcnt : s.cfg.ignDebounceN ≤ s.ignCnt + 1) :
    s.debounce x = { s with ignDb := x, ignCnt := 0 } := by
  obtain ⟨heq, -⟩ | ⟨-, -, hs⟩ | ⟨-, hlt, -⟩ := s.debounce_cases x
  · exact absurd heq h
  · exact hs
  · omega

theorem debounce_counting (h : x ≠ s.ignDb) (hcnt : s.ignCnt + 1 < s.cfg.ignDebounceN) :
    s.debounce x = { s with ignCnt := s.ignCnt + 1 } := by
  obtain ⟨heq, -⟩ | ⟨-, hle, -⟩ | ⟨-, -, hs⟩ := s.debounce_cases x
  · exact absurd heq h
  · omega
  · exact hs

/-- Disagreeing polls are counted one by one as long as the count stays below IGN_DEBOUNCE_N. -/
theorem iterate_debounce_counting (h : x ≠ s.ignDb) (k : Nat) (hcnt : s.ignCnt + k < s.cfg.ignDebounceN) :
    (fun u => State.debounce u x)^[k] s = { s with ignCnt := s.ignCnt + k } := by
  induction k with
  | zero => rfl
  | succ k ih =>
    rw [Function.iterate_succ_apply', ih (by omega)]
    exact debounce_counting h hcnt

/-- The poll that brings a run of disagreeing ones to IGN_DEBOUNCE_N changes the level. -/
theorem iterate_debounce_reaching (h : x ≠ s.ignDb) (k : Nat) (hcnt : s.ignCnt + (k + 1) = s.cfg.ignDebounceN) :
    (fun u => State.debounce u x)^[k + 1] s = { s with ignDb := x, ignCnt := 0 } := by
  rw [Function.iterate_succ_apply', iterate_debounce_counting h k (by omega)]
  exact debounce_reaching h hcnt.ge

theorem debounce_ignDb_of_one (hN : s.cfg.ignDebounceN = 1) : (s.debounce x).ignDb = x := by
  by_cases h : x = s.ignDb
  · rw [debounce_agreeing h, h]
  · rw [debounce_reaching h (by omega)]

end

section
variable {s : State}

/-! The answers to the frames still to come (R105). -/

theorem nextRx_eq_rxAt : s.nextRx = s.rxAt 0 := by
  unfold State.nextRx State.nextReply State.rxAt
  cases s.afeIn <;> rfl

@[simp] theorem sendMask_rxAt (p : Pack) (m : Mask) (t : Byte) (k : Nat) :
    (s.sendMask p m t).rxAt k = s.rxAt (k + 1) := by
  simp [State.rxAt, Nat.add_assoc, Nat.add_comm 1 k]

@[simp] theorem setLine_rxAt (p : Pack) (v : Bool) (k : Nat) : (s.setLine p v).rxAt k = s.rxAt k := by
  simp [State.rxAt]

@[simp] theorem setMask_rxAt (p : Pack) (m : Mask) (k : Nat) : (s.setMask p m).rxAt k = s.rxAt k := by
  simp [State.rxAt]

/-- A frame with a zero mask. -/
theorem sendMask_zero_trace (p : Pack) (t : Byte) :
    (s.sendMask p 0 t).trace = s.trace ++ [.frame p 0x00 0x00 t (s.rxAt 0)] := by
  rw [s.sendMask_trace, nextRx_eq_rxAt]
  rfl

/-! WAKE (R194), pack by pack and then whole. -/

@[simp] theorem wakePack_cfg (p : Pack) : (s.wakePack p).cfg = s.cfg := by simp [State.wakePack]

@[simp] theorem wakePack_rxAt (p : Pack) (k : Nat) : (s.wakePack p).rxAt k = s.rxAt (k + 1) := by
  simp [State.wakePack]

theorem wakePack_trace (p : Pack) :
    (s.wakePack p).trace = s.trace ++ [.en p true, .frame p 0x00 0x00 s.cfg.ctrlWake (s.rxAt 0)] := by
  rw [State.wakePack, sendMask_zero_trace, setLine_rxAt]
  simp

theorem wake_trace :
    s.wake.trace = s.trace ++ [.en .p0 true, .frame .p0 0x00 0x00 s.cfg.ctrlWake (s.rxAt 0), .en .p1 true,
      .frame .p1 0x00 0x00 s.cfg.ctrlWake (s.rxAt 1), .radio true] := by
  simp [State.wake, wakePack_trace]

theorem wake_afeIn : s.wake.afeIn = s.afeIn.drop 2 := by
  simp [State.wake, State.wakePack, ← List.drop_one]

theorem setMode_wake (m : Mode) : (s.setMode m).wake = s.afterWake m :=
  calc (s.setMode m).wake
    _ = { s.afterWake m with trace := (s.setMode m).wake.trace, afeIn := (s.setMode m).wake.afeIn } := rfl
    _ = s.afterWake m := by
      rw [wake_trace, wake_afeIn]
      rfl

/-! SLEEP (R195), pack by pack and then whole. -/

@[simp] theorem sleepPack_cfg (p : Pack) : (s.sleepPack p).cfg = s.cfg := by simp [State.sleepPack]

@[simp] theorem sleepPack_rxAt (p : Pack) (k : Nat) : (s.sleepPack p).rxAt k = s.rxAt (k + 1) := by
  simp [State.sleepPack]

theorem sleepPack_trace (p : Pack) :
    (s.sleepPack p).trace = s.trace ++ [.frame p 0x00 0x00 s.cfg.ctrlSleep (s.rxAt 0), .en p false] := by
  rw [State.sleepPack, State.setLine_trace, sendMask_zero_trace]
  simp

theorem sleep_trace :
    s.sleep.trace = s.trace ++ [.frame .p0 0x00 0x00 s.cfg.ctrlSleep (s.rxAt 0), .en .p0 false,
      .frame .p1 0x00 0x00 s.cfg.ctrlSleep (s.rxAt 1), .en .p1 false, .radio false] := by
  simp [State.sleep, sleepPack_trace]

theorem sleep_afeIn : s.sleep.afeIn = s.afeIn.drop 2 := by
  simp [State.sleep, State.sleepPack, ← List.drop_one]

theorem setMode_sleep : (s.setMode .standby).sleep = s.afterSleep :=
  calc (s.setMode .standby).sleep
    _ = { s.afterSleep with trace := (s.setMode .standby).sleep.trace, afeIn := (s.setMode .standby).sleep.afeIn } := rfl
    _ = s.afterSleep := by
      rw [sleep_trace, sleep_afeIn]
      rfl

/-! The transition function, mode by mode (R193, R196, R198). -/

variable {ign cp : Bool}

theorem trans_standby (h : s.mode = .standby) :
    s.trans ign cp = if cp then s.afterWake .charging else if ign then s.afterWake .driving else s := by
  simp only [State.trans, h, setMode_wake]

theorem trans_driving (h : s.mode = .driving) : s.trans ign cp = if ign then s else s.afterSleep := by
  simp only [State.trans, h, setMode_sleep]

theorem trans_charging (h : s.mode = .charging) : s.trans ign cp = if cp then s else s.afterSleep := by
  simp only [State.trans, h, setMode_sleep]

/-- The transition function does what the table of R193 says. -/
theorem trans_eq_afterTransition : s.trans ign cp = s.afterTransition ign cp := by
  unfold State.afterTransition
  cases h : s.mode with
  | standby => rw [trans_standby h]; cases cp <;> cases ign <;> rfl
  | driving => rw [trans_driving h]; cases ign <;> rfl
  | charging => rw [trans_charging h]; cases cp <;> rfl

/-! The mode alone, and when an evaluation changes nothing (R196, R200). -/

/-- The mode after one evaluation of the table in mode m. -/
def nextMode (m : Mode) (ign cp : Bool) : Mode := (transitionEffect m ign cp).modeAfter m

theorem trans_mode : (s.trans ign cp).mode = nextMode s.mode ign cp := by
  rw [trans_eq_afterTransition]
  unfold State.afterTransition nextMode
  cases transitionEffect s.mode ign cp <;> rfl

/-- Every transition changes the mode, so an evaluation that keeps it has made none. -/
theorem trans_eq_self_of_mode_eq (h : (s.trans ign cp).mode = s.mode) : s.trans ign cp = s := by
  obtain hstay | ⟨hm, m, hne, hwake⟩ | ⟨hne, hsleep⟩ := s.trans_cases ign cp
  · exact hstay
  · rw [hwake, hm] at h
    exact absurd h hne
  · rw [hsleep] at h
    exact absurd h.symm hne

/-- The level that leads to DRIVING or CHARGING is the one that keeps the block there. -/
theorem nextMode_of_awake (m : Mode) :
    ∀ ign cp, nextMode m ign cp ≠ .standby → nextMode (nextMode m ign cp) ign cp = nextMode m ign cp := by
  cases m <;> decide

/-- Two changes of mode in a row: through STANDBY, from the mode whose level is off to the one whose level is on. -/
theorem nextMode_changes_twice_iff (m : Mode) :
    ∀ ign cp, nextMode m ign cp ≠ m ∧ nextMode (nextMode m ign cp) ign cp ≠ nextMode m ign cp ↔
      (m = .driving ∧ ign = false ∧ cp = true) ∨ (m = .charging ∧ ign = true ∧ cp = false) := by
  cases m <;> decide

theorem trans_trans_of_awake (h : (s.trans ign cp).mode ≠ .standby) :
    (s.trans ign cp).trans ign cp = s.trans ign cp := by
  apply trans_eq_self_of_mode_eq
  rw [trans_mode] at h
  rw [trans_mode, trans_mode]
  exact nextMode_of_awake s.mode ign cp h

/-- Awake after the first or the second evaluation, the block stays as it is; in STANDBY after both, the second has made no
transition, so neither does the third. -/
theorem trans_trans_trans : ((s.trans ign cp).trans ign cp).trans ign cp = (s.trans ign cp).trans ign cp := by
  by_cases hfirst : (s.trans ign cp).mode = .standby
  · by_cases hsecond : ((s.trans ign cp).trans ign cp).mode = .standby
    · rw [trans_eq_self_of_mode_eq (hsecond.trans hfirst.symm)]
      exact trans_eq_self_of_mode_eq (hsecond.trans hfirst.symm)
    · exact trans_trans_of_awake hsecond
  · rw [trans_trans_of_awake hfirst]
    exact trans_trans_of_awake hfirst

end

/-- Settles O41: each clause is a branch of its mode's equation. -/
theorem transitionsFollowTheTable : Obligations.TransitionsFollowTheTable := by
  refine fun s ign cp => ⟨fun hm hcp => ?_, fun hm hcp hign => ?_, fun hm hign => ?_, fun hm hcp => ?_,
    fun hm hign hcp => ?_, fun hm hign => ?_, fun hm hcp => ?_⟩
  · simp [trans_standby hm, hcp]
  · simp [trans_standby hm, hcp, hign]
  · simp [trans_driving hm, hign]
  · simp [trans_charging hm, hcp]
  · simp [trans_standby hm, hcp, hign]
  · simp [trans_driving hm, hign]
  · simp [trans_charging hm, hcp]

/-- Settles O43: the three cases of one poll, and by induction on the polls a run of N from a count of 0. -/
theorem debouncerCountsConsecutivePolls : Obligations.DebouncerCountsConsecutivePolls := by
  refine fun s x => ⟨debounce_agreeing, debounce_reaching, debounce_counting, fun hne hzero hN => ⟨fun k hk => ?_, ?_⟩,
    debounce_ignDb_of_one⟩
  · have hrun := iterate_debounce_counting hne k (by omega)
    rwa [hzero, Nat.zero_add] at hrun
  · have hpred : s.cfg.ignDebounceN - 1 + 1 = s.cfg.ignDebounceN := Nat.sub_add_cancel hN
    have hrun := iterate_debounce_reaching hne (s.cfg.ignDebounceN - 1) (by omega)
    rwa [hpred] at hrun

/-- Settles O44: the states by `trans_trans_of_awake` and `trans_trans_trans`, the two named cases by the table. -/
theorem pollingIsIdempotent : Obligations.PollingIsIdempotent := by
  refine fun s ign cp => ⟨trans_trans_of_awake, trans_trans_trans, ?_⟩
  simp only [trans_mode]
  exact nextMode_changes_twice_iff s.mode ign cp

end Sys2Proof.Proofs

/-! PROOFS. The scheduler cycle (47_cycle.md R220 to R229): the events of each of its steps, and what the later steps keep of
the state that the earlier ones report. -/

namespace Sys2Proof.Proofs

open Sys2Proof
open Sys2Proof.Machine

section
variable {s t : State} {ign cp : Bool}

theorem exec_mdrain_running (hrun : s.halted = false) : exec .mdrain s = .next s.drainMailbox.done := by
  change Host.Outcome.next (s.unlessHalted _) = _
  rw [s.unlessHalted_running _ hrun]

theorem exec_cycle_running (hrun : s.halted = false) : exec (.cycle ign cp) s = .next (s.cycleBody ign cp).done := by
  change Host.Outcome.next (s.unlessHalted _) = _
  rw [s.unlessHalted_running _ hrun]

/-! The events of a transition (R194, R195), and what a transition keeps. -/

theorem trans_trace :
    (s.trans ign cp).trace =
      s.trace ++ (transitionEffect s.mode ign cp).events s.cfg (s.rxAt 0) (s.rxAt 1) := by
  rw [trans_eq_afterTransition, State.afterTransition]
  cases transitionEffect s.mode ign cp with
  | stay => exact (List.append_nil _).symm
  | wakeTo m => rfl
  | sleep => rfl

@[simp] theorem trans_cell (p : Pack) (j : Nat) : (s.trans ign cp).cell p j = s.cell p j := by
  obtain ⟨-, -, -, -, -, -, -, -, hpack⟩ := s.trans_frame ign cp
  obtain ⟨hbuf, -, -⟩ := hpack p
  rw [State.cell_eq, hbuf, State.cell_eq]

@[simp] theorem trans_diag (p : Pack) : ((s.trans ign cp).pack p).diag = (s.pack p).diag := by
  obtain ⟨-, -, -, -, -, -, -, -, hpack⟩ := s.trans_frame ign cp
  obtain ⟨-, -, hdiag⟩ := hpack p
  exact hdiag

/-- Only a wake writes masks, and outside STANDBY there is none. -/
theorem trans_mask_of_awake (h : s.mode ≠ .standby) (p : Pack) : (s.trans ign cp).mask p = s.mask p := by
  obtain hstay | ⟨hm, -⟩ | ⟨-, hsleep⟩ := s.trans_cases ign cp
  · rw [hstay]
  · exact absurd hm h
  · rw [hsleep, State.mask_eq, State.sleep_pack]
    rfl

/-! Step 1 (R221): the mailbox's transition. The debouncer stays as it is. -/

theorem drainEffect_empty (h : s.mbox = none) : s.drainEffect = .stay := by
  simp [State.drainEffect, h]

theorem drainEffect_full {v : Bool} (h : s.mbox = some v) : s.drainEffect = transitionEffect s.mode s.ignDb v := by
  simp [State.drainEffect, h]

theorem drainMailbox_mode : s.drainMailbox.mode = s.drainEffect.modeAfter s.mode := by
  obtain ⟨hbox, hs⟩ | ⟨v, hbox, hs⟩ := s.drainMailbox_cases
  · rw [hs, drainEffect_empty hbox]
    rfl
  · rw [hs, drainEffect_full hbox, trans_mode]
    rfl

theorem drainMailbox_trace :
    s.drainMailbox.trace = s.trace ++ s.drainEffect.events s.cfg (s.rxAt 0) (s.rxAt 1) := by
  obtain ⟨hbox, hs⟩ | ⟨v, hbox, hs⟩ := s.drainMailbox_cases
  · rw [hs, drainEffect_empty hbox]
    exact (List.append_nil _).symm
  · rw [hs, drainEffect_full hbox, trans_trace]
    rfl

/-- The debounced ignition a poll leaves depends on the debouncer and its parameter only. -/
theorem debounce_ignDb_congr {x : Bool} (hdb : t.ignDb = s.ignDb) (hcnt : t.ignCnt = s.ignCnt) (hcfg : t.cfg = s.cfg) :
    (t.debounce x).ignDb = (s.debounce x).ignDb := by
  unfold State.debounce
  rw [hdb, hcnt, hcfg]
  split
  · rfl
  · split <;> rfl

theorem drainMailbox_debounce_ignDb (x : Bool) : (s.drainMailbox.debounce x).ignDb = (s.debounce x).ignDb := by
  obtain ⟨-, hs⟩ | ⟨v, -, hs⟩ := s.drainMailbox_cases
  · rw [hs]
  · obtain ⟨hdb, hcnt, -, -, -, hcfg, -⟩ := State.trans_frame { s with mbox := none } s.ignDb v
    rw [hs]
    exact debounce_ignDb_congr hdb hcnt hcfg

/-! Step 2 (R222): both acquisitions, or nothing in STANDBY. -/

@[simp] theorem acquire_mode (p : Pack) : (s.acquire p).mode = s.mode := by
  obtain ⟨hmode, -⟩ := s.acquire_sameButPack p
  exact hmode

@[simp] theorem acquire_ignDb (p : Pack) : (s.acquire p).ignDb = s.ignDb := by
  obtain ⟨-, -, hdb, -⟩ := s.acquire_sameButPack p
  exact hdb

@[simp] theorem acquire_ignCnt (p : Pack) : (s.acquire p).ignCnt = s.ignCnt := by
  obtain ⟨-, -, -, hcnt, -⟩ := s.acquire_sameButPack p
  exact hcnt

theorem acquire_pack_other {p q : Pack} (h : q ≠ p) : (s.acquire p).pack q = s.pack q := by
  obtain ⟨-, -, -, -, -, -, -, -, -, hother, -⟩ := s.acquire_sameButPack p
  exact hother q h

theorem cycleAcquire_standby (h : s.mode = .standby) : s.cycleAcquire = s := by
  simp [State.cycleAcquire, h]

theorem cycleAcquire_awake (h : s.mode ≠ .standby) : s.cycleAcquire = (s.acquire .p0).acquire .p1 := by
  unfold State.cycleAcquire
  split
  · contradiction
  · rfl
  · rfl

@[simp] theorem cycleAcquire_mode : s.cycleAcquire.mode = s.mode := by
  unfold State.cycleAcquire
  split <;> simp

theorem cycleAcquire_debounce_ignDb (x : Bool) : (s.cycleAcquire.debounce x).ignDb = (s.debounce x).ignDb := by
  unfold State.cycleAcquire
  split
  · rfl
  all_goals exact debounce_ignDb_congr (by simp) (by simp) (by simp)

/-- The events of ACQ(0) and ACQ(1) one after the other, with the parameters and masks of d, and DIAG as the flags of t say
(R121, R222). -/
def bothAcqEvents (d t : State) (f0 : Word24) (r0 : List (Word24 × Int)) (l0 f1 : Word24) (r1 : List (Word24 × Int))
    (l1 : Word24) : List Event :=
  acqEvents d.cfg .p0 (d.mask .p0) f0 r0 l0 ++ (if (t.pack .p0).diag then [.diag .p0] else []) ++
    acqEvents d.cfg .p1 (d.mask .p1) f1 r1 l1 ++ (if (t.pack .p1).diag then [.diag .p1] else [])

theorem bothAcqEvents_congr {d u : State} (hdiag : ∀ p, (u.pack p).diag = (t.pack p).diag) :
    bothAcqEvents d u = bothAcqEvents d t := by
  funext f0 r0 l0 f1 r1 l1
  simp only [bothAcqEvents, hdiag]

/-- ACQ(1) keeps pack 0, so both flags can be read at the end, and it uses the mask pack 1 had before ACQ(0). -/
theorem cycleAcquire_trace (h : s.mode ≠ .standby) :
    ∃ (f0 l0 f1 l1 : Word24) (r0 r1 : List (Word24 × Int)), r0.length = s.cfg.numCells ∧ r1.length = s.cfg.numCells ∧
      s.cycleAcquire.trace = s.trace ++ bothAcqEvents s s.cycleAcquire f0 r0 l0 f1 r1 l1 := by
  obtain ⟨f0, l0, r0, hlen0, htrace0⟩ := acquire_trace (s := s) .p0
  obtain ⟨f1, l1, r1, hlen1, htrace1⟩ := acquire_trace (s := s.acquire .p0) .p1
  have hpack0 : ((s.acquire .p0).acquire .p1).pack .p0 = (s.acquire .p0).pack .p0 := acquire_pack_other (by decide)
  have hmask1 : (s.acquire .p0).mask .p1 = s.mask .p1 := congrArg PackState.mask (acquire_pack_other (by decide))
  refine ⟨f0, l0, f1, l1, r0, r1, hlen0, by simpa using hlen1, ?_⟩
  rw [cycleAcquire_awake h, bothAcqEvents, htrace1, htrace0, hpack0, hmask1, acquire_cfg]
  simp only [List.append_assoc]

/-! Step 4 (R224, R225): the mode's actions. -/

theorem balancePack_trace (p : Pack) :
    ∃ rx, (s.balancePack p).trace =
      s.trace ++ [.frame p (hiByte ((s.balancePack p).mask p)) (loByte ((s.balancePack p).mask p)) s.cfg.ctrlBalset rx] :=
  ⟨(s.rebuildMask p).nextRx, by simp [State.balancePack, State.commitMask, State.rebuildMask]⟩

theorem balancePack_mask_other {p q : Pack} (h : q ≠ p) : (s.balancePack p).mask q = s.mask q :=
  rebuildMask_mask_other h

@[simp] theorem balancePack_diag (p q : Pack) : ((s.balancePack p).pack q).diag = (s.pack q).diag := by
  cases p <;> cases q <;> rfl

theorem cycleActions_charging (h : s.mode = .charging) :
    s.cycleActions = ((s.balancePack .p0).balancePack .p1).emit
      (.can ((s.balancePack .p0).balancePack .p1).statusByte ((s.balancePack .p0).balancePack .p1).faultByte) := by
  simp [State.cycleActions, h]

theorem cycleActions_standby (h : s.mode = .standby) : s.cycleActions = s := by
  simp [State.cycleActions, h]

theorem cycleActions_driving (h : s.mode = .driving) : s.cycleActions = s.emit .telemetry := by
  simp [State.cycleActions, h]

@[simp] theorem cycleActions_mode : s.cycleActions.mode = s.mode := by
  unfold State.cycleActions
  split <;> rfl

@[simp] theorem cycleActions_diag (p : Pack) : (s.cycleActions.pack p).diag = (s.pack p).diag := by
  unfold State.cycleActions
  split <;> simp

theorem cycleActions_debounce_ignDb (x : Bool) : (s.cycleActions.debounce x).ignDb = (s.debounce x).ignDb := by
  unfold State.cycleActions
  split
  · rfl
  all_goals exact debounce_ignDb_congr rfl rfl rfl

/-- The status byte reads the parameters, the cell buffers and the masks (R160 to R164). -/
theorem statusByte_congr (hcfg : t.cfg = s.cfg) (hcell : ∀ p j, t.cell p j = s.cell p j)
    (hmask : ∀ p, t.mask p = s.mask p) : t.statusByte = s.statusByte := by
  simp only [State.statusByte, State.balancing, overVoltage_congr hcfg hcell, underVoltage_congr hcfg hcell, hmask]

/-- The events of balancing in CHARGING as state t shows them: a frame with each pack's mask, then the bytes of CAN (R224). -/
def balanceEvents (t : State) (rx0 rx1 : Word24) : List Event :=
  [.frame .p0 (hiByte (t.mask .p0)) (loByte (t.mask .p0)) t.cfg.ctrlBalset rx0,
    .frame .p1 (hiByte (t.mask .p1)) (loByte (t.mask .p1)) t.cfg.ctrlBalset rx1,
    .can t.statusByte t.faultByte]

theorem balanceEvents_congr (hcfg : t.cfg = s.cfg) (hcell : ∀ p j, t.cell p j = s.cell p j)
    (hmask : ∀ p, t.mask p = s.mask p) : balanceEvents t = balanceEvents s := by
  funext rx0 rx1
  simp only [balanceEvents, statusByte_congr hcfg hcell hmask, hmask, hcfg]
  rfl

theorem cycleActions_trace_charging (h : s.mode = .charging) :
    ∃ rx0 rx1, s.cycleActions.trace = s.trace ++ balanceEvents s.cycleActions rx0 rx1 := by
  obtain ⟨rx0, htrace0⟩ := balancePack_trace (s := s) .p0
  obtain ⟨rx1, htrace1⟩ := balancePack_trace (s := s.balancePack .p0) .p1
  have hmask0 : ((s.balancePack .p0).balancePack .p1).mask .p0 = (s.balancePack .p0).mask .p0 :=
    balancePack_mask_other (by decide)
  have hshown : balanceEvents s.cycleActions = balanceEvents ((s.balancePack .p0).balancePack .p1) := by
    rw [cycleActions_charging h]
    exact balanceEvents_congr rfl (State.emit_cell _ _) (State.emit_mask _ _)
  refine ⟨rx0, rx1, ?_⟩
  rw [hshown, cycleActions_charging h, State.emit_trace, htrace1, htrace0, balanceEvents, hmask0]
  simp

/-! Step 5 (R226): the poll's transition, and what step 5 keeps of what the earlier steps reported. -/

theorem pollInputs_mode :
    (s.pollInputs ign cp).mode = (transitionEffect s.mode (s.debounce ign).ignDb cp).modeAfter s.mode := by
  rw [State.pollInputs, trans_mode, State.debounce_mode, nextMode]

theorem pollInputs_trace :
    ∃ y0 y1, (s.pollInputs ign cp).trace =
      s.trace ++ (transitionEffect s.mode (s.debounce ign).ignDb cp).events s.cfg y0 y1 :=
  ⟨(s.debounce ign).rxAt 0, (s.debounce ign).rxAt 1, by simp [State.pollInputs, trans_trace]⟩

theorem pollInputs_diag (p : Pack) : ((s.pollInputs ign cp).pack p).diag = (s.pack p).diag := by
  simp [State.pollInputs]

theorem pollInputs_cell (p : Pack) (j : Nat) : (s.pollInputs ign cp).cell p j = s.cell p j := by
  simp [State.pollInputs, State.cell_eq s, State.cell_eq (s.debounce ign)]

theorem pollInputs_mask_of_awake (h : s.mode ≠ .standby) (p : Pack) : (s.pollInputs ign cp).mask p = s.mask p := by
  rw [State.pollInputs, trans_mask_of_awake (by simpa using h), State.mask_eq, State.debounce_pack, State.mask_eq]

/-! Steps 2 to 5, from the state d that step 1 leaves. -/

/-- What lies between the transitions of steps 1 and 5, outside STANDBY: d is the state after step 1, t the one after the
cycle (R229). -/
def AwakeMiddle (d t : State) (middle : List Event) : Prop :=
  ∃ (f0 l0 f1 l1 : Word24) (r0 r1 : List (Word24 × Int)) (tail : List Event),
    r0.length = d.cfg.numCells ∧ r1.length = d.cfg.numCells ∧
    middle = bothAcqEvents d t f0 r0 l0 f1 r1 l1 ++ tail ∧
    (d.mode = .driving → tail = [.telemetry]) ∧
    (d.mode = .charging → ∃ rx0 rx1, tail = balanceEvents t rx0 rx1)

/-- Steps 2 to 4 append the acquisitions and the mode's actions; the flags, masks and status bytes they report are those the
cycle ends with, since step 5 keeps them. -/
theorem cycleMiddle_trace_awake {d : State} (h : d.mode ≠ .standby)
    (ht : t = d.cycleAcquire.cycleActions.pollInputs ign cp) :
    ∃ middle, d.cycleAcquire.cycleActions.trace = d.trace ++ middle ∧ AwakeMiddle d t middle := by
  obtain ⟨f0, l0, f1, l1, r0, r1, hlen0, hlen1, hacq⟩ := cycleAcquire_trace h
  have hdiag : bothAcqEvents d d.cycleAcquire = bothAcqEvents d t :=
    bothAcqEvents_congr fun p => by rw [ht, pollInputs_diag, cycleActions_diag]
  rw [hdiag] at hacq
  cases hm : d.mode with
  | standby => exact absurd hm h
  | driving =>
    refine ⟨_, ?_, f0, l0, f1, l1, r0, r1, [.telemetry], hlen0, hlen1, rfl, fun _ => rfl, by simp [hm]⟩
    rw [cycleActions_driving (by simpa using hm), State.emit_trace, hacq, List.append_assoc]
  | charging =>
    obtain ⟨rx0, rx1, hact⟩ := cycleActions_trace_charging (s := d.cycleAcquire) (by simpa using hm)
    have hshown : balanceEvents t = balanceEvents d.cycleAcquire.cycleActions := by
      rw [ht]
      exact balanceEvents_congr (pollInputs_cfg ign cp) pollInputs_cell (pollInputs_mask_of_awake (by simpa using h))
    refine ⟨_, ?_, f0, l0, f1, l1, r0, r1, balanceEvents t rx0 rx1, hlen0, hlen1, rfl, by simp [hm],
      fun _ => ⟨rx0, rx1, rfl⟩⟩
    rw [hact, hacq, hshown, List.append_assoc]

/-- Steps 2 to 4 in every mode (R229). -/
theorem cycleMiddle_trace {d : State} (ht : t = d.cycleAcquire.cycleActions.pollInputs ign cp) :
    ∃ middle, d.cycleAcquire.cycleActions.trace = d.trace ++ middle ∧
      (d.mode = .standby → middle = []) ∧ (d.mode ≠ .standby → AwakeMiddle d t middle) := by
  by_cases h : d.mode = .standby
  · exact ⟨[], by simp [cycleAcquire_standby h, cycleActions_standby h], fun _ => rfl, absurd h⟩
  · obtain ⟨middle, htrace, hawake⟩ := cycleMiddle_trace_awake h ht
    exact ⟨middle, htrace, fun hm => absurd hm h, fun _ => hawake⟩

/-- The poll of step 5 makes the transition from the mode after step 1, on the ignition as debounced from the start. -/
theorem cyclePoll_effect :
    transitionEffect s.drainMailbox.cycleAcquire.cycleActions.mode
        (s.drainMailbox.cycleAcquire.cycleActions.debounce ign).ignDb cp =
      transitionEffect s.drainMailbox.mode (s.debounce ign).ignDb cp := by
  rw [cycleActions_mode, cycleAcquire_mode, cycleActions_debounce_ignDb, cycleAcquire_debounce_ignDb,
    drainMailbox_debounce_ignDb]

end

/-- Settles O52: step 1 is `drainMailbox_trace`, steps 2 to 4 are `cycleMiddle_trace`, step 5 is `pollInputs_trace`. -/
theorem cycleTraceByMode : Obligations.CycleTraceByMode := by
  intro ign cp s hrun
  obtain ⟨middle, hmiddle, hstandby, hawake⟩ := cycleMiddle_trace (d := s.drainMailbox) (ign := ign) (cp := cp) rfl
  obtain ⟨y0, y1, hpoll⟩ := pollInputs_trace (s := s.drainMailbox.cycleAcquire.cycleActions) (ign := ign) (cp := cp)
  refine ⟨s.drainMailbox.done, (s.cycleBody ign cp).done, s.rxAt 0, s.rxAt 1, y0, y1, middle,
    exec_mdrain_running hrun, exec_cycle_running hrun, drainMailbox_mode, ?_, drainMailbox_trace, ?_, hstandby,
    fun hm => ?_⟩
  · have hmode := pollInputs_mode (s := s.drainMailbox.cycleAcquire.cycleActions) (ign := ign) (cp := cp)
    rw [cyclePoll_effect, cycleActions_mode, cycleAcquire_mode] at hmode
    exact hmode
  · rw [cyclePoll_effect, hmiddle, cycleActions_cfg, cycleAcquire_cfg, drainMailbox_cfg] at hpoll
    exact hpoll
  · have hshown := hawake hm
    simp only [AwakeMiddle, balanceEvents, bothAcqEvents, drainMailbox_cfg, pollInputs_cfg, cycleActions_cfg,
      cycleAcquire_cfg] at hshown
    exact hshown

end Sys2Proof.Proofs

/-! PROOFS. Refusal, and the halted block (60_exceptions.md R230 to R233): which checks refuse which command, in R232's
order; that a command either fails one of them or answers OK; and what a halted block still writes. -/

namespace Sys2Proof.Proofs

open Sys2Proof
open Sys2Proof.Machine

section
variable {s t : State} {i : Instr} {c : Code}

/-- Only the frame kinds are no commands, and none of them has a row: what the decoder reads is a command (R75, R78). -/
theorem isCommand_of_decode {w : Word} (h : decode w = .ok i) : i.isCommand = true := by
  have hnames : ∀ r ∈ commandTable, r.1 ∉ ["AFE.SAMPLE", "AFE.SELECT", "AFE.BALSET", "AFE.SLEEP", "AFE.WAKE"] := by
    decide
  obtain ⟨r, hr, hname, -⟩ := row_of_decode_ok h
  have hframe := hnames r hr
  rw [hname] at hframe
  cases i with
  | xfer3 | seten | acq | push | pusht | avg | avgt | ovq | uvq | balq | otq | statq | fltq | diagq | modeq | maskq
  | balc | balw | poll | mpost | mdrain | cycle | halt => rfl
  | afeSample | afeSelect | afeBalset | afeSleep | afeWake => exact absurd (by simp [Instr.mnemonic]) hframe

/-- The step that takes a word the decoder reads runs its command on the state without the word (R21). -/
theorem step_of_decode_ok {w : Word} {rest : List Word} (h : decode w = .ok i) (hcmds : s.cmds = w :: rest) :
    step s = exec i { s with cmds := rest } := by
  simp [step, State.fetched, State.taken, hcmds, h]

/-! The checks HALTED and BADARG, command by command (R82, R233). -/

/-- The HALTED check comes before the body and the other checks of every command of opcodes 0x1 to 0x5 and 0x9 to 0xE. -/
theorem exec_refused_halted (hhalted : s.halted = true) (h : refusedWhileHalted i = true) :
    exec i s = .next (s.refuse .halted) := by
  cases i with
  | xfer3 | seten | acq | push | pusht | balc | balw | poll | mpost | mdrain | cycle =>
    exact congrArg Host.Outcome.next (s.unlessHalted_halted _ hhalted)
  | avg | avgt | ovq | uvq | balq | otq | statq | fltq | diagq | modeq | maskq | halt
  | afeSample | afeSelect | afeBalset | afeSleep | afeWake => exact absurd h Bool.false_ne_true

theorem exec_push_inside (p : Pack) {j : Nat} (code : Int) (hrun : s.halted = false) (hj : j < s.cfg.numCells) :
    exec (.push p j code) s = .next (s.pushCell p j code).done := by
  change Host.Outcome.next (s.unlessHalted _) = _
  rw [s.unlessHalted_running _ hrun, s.withCellArg_inside _ _ hj]

theorem exec_push_beyond (p : Pack) {j : Nat} (code : Int) (hrun : s.halted = false) (hj : s.cfg.numCells ≤ j) :
    exec (.push p j code) s = .next (s.refuse .badArg) := by
  change Host.Outcome.next (s.unlessHalted _) = _
  rw [s.unlessHalted_running _ hrun, s.withCellArg_beyond _ _ hj]

theorem exec_avg_inside (p : Pack) {j : Nat} (hj : j < s.cfg.numCells) :
    exec (.avg p j) s = .next (s.respond .ok (meanValue (s.cell p j))) :=
  congrArg Host.Outcome.next (s.withCellArg_inside _ _ hj)

theorem exec_avg_beyond (p : Pack) {j : Nat} (hj : s.cfg.numCells ≤ j) :
    exec (.avg p j) s = .next (s.refuse .badArg) :=
  congrArg Host.Outcome.next (s.withCellArg_beyond _ _ hj)

/-! All checks together. -/

/-- The table of R232: in state s the checks refuse the command with the code. A check after HALTED applies only to a
command that passes HALTED, which AVG always does (R143). -/
inductive Refused (s : State) : Instr → Code → Prop where
  | halted {i : Instr} (hhalted : s.halted = true) (h : refusedWhileHalted i = true) : Refused s i .halted
  | push {p : Pack} {j : Nat} {code : Int} (hrun : s.halted = false) (hj : s.cfg.numCells ≤ j) :
      Refused s (.push p j code) .badArg
  | avg {p : Pack} {j : Nat} (hj : s.cfg.numCells ≤ j) : Refused s (.avg p j) .badArg
  | acq {p : Pack} (hrun : s.halted = false) (hmode : s.mode = .standby) : Refused s (.acq p) .badMode
  | balc {p : Pack} (hrun : s.halted = false) (hmode : s.mode ≠ .charging) : Refused s (.balc p) .badMode
  | balw {p : Pack} (hrun : s.halted = false) (hmode : s.mode ≠ .charging) : Refused s (.balw p) .badMode

/-- A refused command answers the code and writes nothing else (R231). -/
theorem exec_of_refused (h : Refused s i c) : exec i s = .next (s.refuse c) := by
  cases h with
  | halted hhalted h => exact exec_refused_halted hhalted h
  | push hrun hj => exact exec_push_beyond _ _ hrun hj
  | avg hj => exact exec_avg_beyond _ hj
  | acq hrun hmode => exact exec_acq_standby _ hrun hmode
  | balc hrun hmode => exact exec_balc_other _ hrun hmode
  | balw hrun hmode => exact exec_balw_other _ hrun hmode

/-- A command that passes its checks answers OK, since its body ends with that response. -/
theorem exec_of_not_refused (hcommand : i.isCommand = true) (h : ∀ c, ¬ Refused s i c) :
    ∃ t v, exec i s = .next t ∧ t.resp = some { code := .ok, value := v } := by
  have hrun (hi : refusedWhileHalted i = true) : s.halted = false :=
    Bool.eq_false_iff.mpr fun hhalted => h _ (.halted hhalted hi)
  cases i with
  | xfer3 | seten | pusht | poll | mpost | mdrain | cycle =>
    exact ⟨_, _, congrArg Host.Outcome.next (s.unlessHalted_running _ (hrun rfl)), rfl⟩
  | acq p =>
    have hmode : s.mode ≠ .standby := fun hmode => h _ (.acq (hrun rfl) hmode)
    exact ⟨_, _, exec_acq_awake p (hrun rfl) hmode, rfl⟩
  | push p j code =>
    have hj : j < s.cfg.numCells := not_le.mp fun hj => h _ (.push (hrun rfl) hj)
    exact ⟨_, _, exec_push_inside p code (hrun rfl) hj, rfl⟩
  | avg p j =>
    have hj : j < s.cfg.numCells := not_le.mp fun hj => h _ (.avg hj)
    exact ⟨_, _, exec_avg_inside p hj, rfl⟩
  | balc p =>
    have hmode : s.mode = .charging := not_not.mp fun hmode => h _ (.balc (hrun rfl) hmode)
    exact ⟨_, _, exec_balc_charging p (hrun rfl) hmode, rfl⟩
  | balw p =>
    have hmode : s.mode = .charging := not_not.mp fun hmode => h _ (.balw (hrun rfl) hmode)
    exact ⟨_, _, exec_balw_charging p (hrun rfl) hmode, rfl⟩
  | avgt | ovq | uvq | balq | otq | statq | fltq | diagq | modeq | maskq | halt => exact ⟨_, _, rfl, rfl⟩
  | afeSample | afeSelect | afeBalset | afeSleep | afeWake => exact absurd hcommand Bool.false_ne_true

/-! What a halted block still writes (R216, R233). -/

theorem enterHalt_of_halted (hhalted : s.halted = true) : s.enterHalt = s := by
  rw [State.enterHalt, ← hhalted]

theorem sendKind_of_halted (hhalted : s.halted = true) (p : Pack) (m : Mask) (b : Byte) : s.sendKind p m b = s :=
  if_pos hhalted

/-- While halted an instruction writes the response at most: a refusal and a read write it, HALT finds the flag set, and a
frame kind sends nothing. -/
theorem exec_halted_writes_resp (hhalted : s.halted = true) (h : exec i s = .next t) : t = { s with resp := t.resp } := by
  cases i with
  | xfer3 | seten | acq | push | pusht | balc | balw | poll | mpost | mdrain | cycle =>
    rw [exec_refused_halted hhalted rfl] at h
    cases h
    rfl
  | avg p j =>
    obtain hj | hj := Nat.lt_or_ge j s.cfg.numCells
    · rw [exec_avg_inside p hj] at h
      cases h
      rfl
    · rw [exec_avg_beyond p hj] at h
      cases h
      rfl
  | avgt | ovq | uvq | balq | otq | statq | fltq | diagq | modeq | maskq =>
    cases h
    rfl
  | halt =>
    cases h
    rw [enterHalt_of_halted hhalted]
    rfl
  | afeSample | afeSelect | afeBalset | afeSleep | afeWake =>
    cases h
    rw [sendKind_of_halted hhalted]

/-- A step of a halted block takes at most a word and writes at most the response. -/
theorem step_halted_writes_cmds_resp (hhalted : s.halted = true) (h : step s = .next t) :
    t = { s with cmds := t.cmds, resp := t.resp } := by
  obtain ⟨-, hs⟩ | ⟨_, _, _, -, -, hs⟩ | ⟨_, _, i, -, -, hs⟩ := step_cases s <;> rw [hs] at h
  · cases h
    rfl
  · cases h
    rfl
  · rw [exec_halted_writes_resp (s := s.taken) hhalted h]
    rfl

end

/-- Settles O48: the HALTED check, the reads that pass it, and `step_halted_writes_cmds_resp`. -/
theorem haltedBlockAnswersReadsOnly : Obligations.HaltedBlockAnswersReadsOnly := by
  intro s hhalted
  refine ⟨fun i => exec_refused_halted hhalted, fun i => exec_query, fun p j hj => ⟨_, exec_avg_inside p hj⟩,
    fun p => ⟨_, rfl⟩, ?_, fun t => step_halted_writes_cmds_resp hhalted⟩
  exact congrArg (fun u => Host.Outcome.next u.done) (enterHalt_of_halted hhalted)

/-- Settles O49: each refusal is a row of `Refused`; a command in no row answers OK. -/
theorem refusalCodesByPriority : Obligations.RefusalCodesByPriority := by
  intro s
  refine ⟨fun w rest e hcmds hdec => step_of_decode_error hdec s rest hcmds, fun hhalted p j code => ?_,
    fun p j hj => exec_of_refused (.avg hj), fun hrun => ⟨fun p j code hj => exec_of_refused (.push hrun hj),
      fun hmode p => exec_of_refused (.acq hrun hmode),
      fun hmode p => ⟨exec_of_refused (.balc hrun hmode), exec_of_refused (.balw hrun hmode)⟩⟩,
    fun hrun i hcommand hpush havg hacq hbal => exec_of_not_refused hcommand fun c hrefused => ?_⟩
  · exact ⟨exec_of_refused (.halted hhalted rfl), exec_of_refused (.halted hhalted rfl),
      exec_of_refused (.halted hhalted rfl), exec_of_refused (.halted hhalted rfl)⟩
  · cases hrefused with
    | halted hhalted => exact Bool.false_ne_true (hrun.symm.trans hhalted)
    | push _ hj => exact (hpush _ _ _ rfl).not_ge hj
    | avg hj => exact (havg _ _ rfl).not_ge hj
    | acq _ hmode => exact hacq _ rfl hmode
    | balc _ hmode => exact hmode (hbal _ (.inl rfl))
    | balw _ hmode => exact hmode (hbal _ (.inr rfl))

/-- Settles O50: an ILLEGAL word and a refused command write the response only, and every other command answers OK. -/
theorem refusedCommandHasNoEffect : Obligations.RefusedCommandHasNoEffect := by
  intro s t w rest hcmds hstep
  cases hdec : decode w with
  | error e =>
    rw [step_of_decode_error hdec s rest hcmds] at hstep
    cases hstep
    exact ⟨_, rfl, fun _ => rfl⟩
  | ok i =>
    rw [step_of_decode_ok hdec hcmds] at hstep
    by_cases hrefused : ∃ c, Refused { s with cmds := rest } i c
    · obtain ⟨c, hc⟩ := hrefused
      rw [exec_of_refused hc] at hstep
      cases hstep
      exact ⟨_, rfl, fun _ => rfl⟩
    · obtain ⟨u, v, hu, hresp⟩ := exec_of_not_refused (isCommand_of_decode hdec) (not_exists.mp hrefused)
      rw [hu] at hstep
      cases hstep
      exact ⟨_, hresp, fun hcode => absurd rfl hcode⟩

end Sys2Proof.Proofs

/-! PROOFS. Reset and the hazard of DRIVING (70_reset_and_hazards.md R260, R275): what the reset state reads as, and that
in DRIVING both masks are zero. The one writer of a non-zero mask runs in CHARGING, and DRIVING is entered by a WAKE, which
clears the masks. -/

namespace Sys2Proof.Proofs

open Sys2Proof
open Sys2Proof.Machine

/-! The reset state, register by register (R260). -/

section
variable {c : Config}

@[simp] theorem resetWith_pack (p : Pack) : (State.resetWith c).pack p = PackState.initial c := by
  cases p <;> rfl

@[simp] theorem resetWith_mask (p : Pack) : (State.resetWith c).mask p = 0 := by
  rw [State.mask_eq, resetWith_pack]
  rfl

@[simp] theorem resetWith_tot (p : Pack) : (State.resetWith c).tot p = Ring.empty := by
  rw [State.tot_eq, resetWith_pack]
  rfl

/-- Every cell buffer reads as empty: those of the pack by reset, and those beyond NUM_CELLS by the accessor. -/
@[simp] theorem resetWith_cell (p : Pack) (j : Nat) : (State.resetWith c).cell p j = Ring.empty := by
  rw [State.cell_eq, resetWith_pack]
  simp only [PackState.initial, List.getD_eq_getElem?_getD, List.getElem?_replicate]
  split <;> rfl

/-- An empty buffer has no mean, so it meets neither comparison (R149). -/
theorem empty_atLeastUpper : Ring.empty.atLeastUpper c = false := rfl

theorem empty_belowLower : Ring.empty.belowLower c = false := rfl

theorem resetWith_anyCell (p : Pack) {f : Ring → Bool} (hempty : f Ring.empty = false) :
    (State.resetWith c).anyCell p f = false := by
  simp [State.anyCell, hempty]

@[simp] theorem resetWith_overVoltage : (State.resetWith c).overVoltage = false := by
  rw [State.overVoltage, resetWith_anyCell .p0 empty_atLeastUpper, resetWith_anyCell .p1 empty_atLeastUpper]
  rfl

@[simp] theorem resetWith_underVoltage : (State.resetWith c).underVoltage = false := by
  rw [State.underVoltage, resetWith_anyCell .p0 empty_belowLower, resetWith_anyCell .p1 empty_belowLower]
  rfl

@[simp] theorem resetWith_balancing : (State.resetWith c).balancing = false := by
  simp [State.balancing]

theorem resetWith_statusByte : (State.resetWith c).statusByte = 0x00 := by
  simp only [State.statusByte, resetWith_balancing, resetWith_underVoltage, resetWith_overVoltage]
  rfl

/-- No bit of FAULT depends on the state, since OT is always false (R163, R165). -/
theorem faultByte_eq_zero (s : State) : s.faultByte = 0x00 := by
  unfold State.faultByte State.overTemperature
  rfl

end

/-! Which commands keep the mode and the masks. -/

section
variable {s t : State}

@[simp] theorem setLine_mask (p q : Pack) (v : Bool) : (s.setLine p v).mask q = s.mask q := by
  cases p <;> cases q <;> rfl

@[simp] theorem pushCell_mask (p q : Pack) (j : Nat) (x : Int) : (s.pushCell p j x).mask q = s.mask q := by
  cases p <;> cases q <;> rfl

@[simp] theorem pushTot_mask (p q : Pack) (x : Int) : (s.pushTot p x).mask q = s.mask q := by
  cases p <;> cases q <;> rfl

@[simp] theorem acquire_mask (p q : Pack) : (s.acquire p).mask q = s.mask q := by
  obtain ⟨-, -, -, -, -, -, -, -, -, hother, hmask, -⟩ := s.acquire_sameButPack p
  by_cases h : q = p
  · rw [h]
    exact hmask
  · exact congrArg PackState.mask (hother q h)

@[simp] theorem cycleAcquire_mask (q : Pack) : s.cycleAcquire.mask q = s.mask q := by
  unfold State.cycleAcquire
  split <;> simp

/-! The invariant, and the two ways to keep it: write neither the mode nor a mask, or end outside DRIVING. -/

/-- In DRIVING both masks are zero (R275). -/
def MasksZeroInDriving (s : State) : Prop := s.mode = .driving → ∀ p, s.mask p = 0

theorem MasksZeroInDriving.congr (hs : MasksZeroInDriving s) (hmode : t.mode = s.mode)
    (hmask : ∀ p, t.mask p = s.mask p) : MasksZeroInDriving t := by
  intro hdriving p
  rw [hmask]
  exact hs (hmode.symm.trans hdriving) p

theorem masksZeroInDriving_of_mode_ne (h : s.mode ≠ .driving) : MasksZeroInDriving s :=
  fun hdriving => absurd hdriving h

namespace MasksZeroInDriving

theorem respond (hs : MasksZeroInDriving s) (c : Code) (v : Word) : MasksZeroInDriving (s.respond c v) :=
  hs.congr (s.respond_mode c v) (s.respond_mask c v)

/-! The checks: a refusal writes the response only (R231). -/

theorem unlessHalted (hs : MasksZeroInDriving s) {body : State → State} (hbody : MasksZeroInDriving (body s)) :
    MasksZeroInDriving (s.unlessHalted body) := by
  unfold State.unlessHalted
  split
  · exact hs.respond .halted 0
  · exact hbody

theorem withCellArg (hs : MasksZeroInDriving s) {j : Nat} {body : State → State}
    (hbody : MasksZeroInDriving (body s)) : MasksZeroInDriving (s.withCellArg j body) := by
  unfold State.withCellArg
  split
  · exact hs.respond .badArg 0
  · exact hbody

theorem unlessStandby (hs : MasksZeroInDriving s) {body : State → State} (hbody : MasksZeroInDriving (body s)) :
    MasksZeroInDriving (s.unlessStandby body) := by
  unfold State.unlessStandby
  split
  · exact hs.respond .badMode 0
  · exact hbody

/-- A body behind the CHARGING gate may write any mask, as long as it does not enter DRIVING (R182). -/
theorem onlyCharging (hs : MasksZeroInDriving s) {body : State → State} (hbody : (body s).mode = s.mode) :
    MasksZeroInDriving (s.onlyCharging body) := by
  unfold State.onlyCharging
  split
  · next hcharging => exact masksZeroInDriving_of_mode_ne (by simp [hbody, hcharging])
  · exact hs.respond .badMode 0

/-! The mode controller and the cycle. -/

/-- WAKE clears both masks, and SLEEP leaves DRIVING (R194, R195). -/
theorem trans (hs : MasksZeroInDriving s) (ign cp : Bool) : MasksZeroInDriving (s.trans ign cp) := by
  obtain hstay | ⟨-, m, -, hwake⟩ | ⟨-, hsleep⟩ := s.trans_cases ign cp
  · rw [hstay]
    exact hs
  · intro _ p
    rw [hwake, State.mask_eq, State.wake_pack]
  · rw [hsleep]
    exact masksZeroInDriving_of_mode_ne (by simp)

theorem pollInputs (hs : MasksZeroInDriving s) (ign cp : Bool) : MasksZeroInDriving (s.pollInputs ign cp) :=
  (hs.congr (s.debounce_mode ign) fun p => congrArg PackState.mask (s.debounce_pack ign p)).trans _ cp

theorem drainMailbox (hs : MasksZeroInDriving s) : MasksZeroInDriving s.drainMailbox := by
  obtain ⟨-, hdrained⟩ | ⟨v, -, hdrained⟩ := s.drainMailbox_cases
  · rw [hdrained]
    exact hs
  · have hemptied : MasksZeroInDriving { s with mbox := none } := hs.congr rfl fun p => by cases p <;> rfl
    rw [hdrained]
    exact hemptied.trans s.ignDb v

theorem cycleAcquire (hs : MasksZeroInDriving s) : MasksZeroInDriving s.cycleAcquire :=
  hs.congr cycleAcquire_mode cycleAcquire_mask

/-- In DRIVING the action is TELEMETRY; the masks are rebuilt in CHARGING, where the block stays (R224, R225). -/
theorem cycleActions (hs : MasksZeroInDriving s) : MasksZeroInDriving s.cycleActions := by
  intro hdriving p
  rw [cycleActions_mode] at hdriving
  rw [cycleActions_driving hdriving, State.emit_mask]
  exact hs hdriving p

theorem cycleBody (hs : MasksZeroInDriving s) (ign cp : Bool) : MasksZeroInDriving (s.cycleBody ign cp) :=
  hs.drainMailbox.cycleAcquire.cycleActions.pollInputs ign cp

theorem sendKind (hs : MasksZeroInDriving s) (p : Pack) (m : Mask) (b : Byte) :
    MasksZeroInDriving (s.sendKind p m b) := by
  unfold State.sendKind
  split
  · exact hs
  · exact hs.congr (s.sendMask_mode p m b) (s.sendMask_mask p m b)

/-! Every instruction and every step. -/

theorem of_exec {i : Instr} (hs : MasksZeroInDriving s) (h : exec i s = .next t) : MasksZeroInDriving t := by
  cases i with
  | xfer3 | seten | pusht =>
    cases h
    exact hs.unlessHalted (hs.congr (by simp) (by simp))
  | acq =>
    cases h
    exact hs.unlessHalted (hs.unlessStandby (hs.congr (by simp) (by simp)))
  | push =>
    cases h
    exact hs.unlessHalted (hs.withCellArg (hs.congr (by simp) (by simp)))
  | balc =>
    cases h
    exact hs.unlessHalted (hs.onlyCharging (by simp))
  | balw =>
    cases h
    exact hs.unlessHalted (hs.onlyCharging rfl)
  | poll ign cp =>
    cases h
    exact hs.unlessHalted ((hs.pollInputs ign cp).respond .ok 0)
  | mpost =>
    cases h
    apply hs.unlessHalted
    split
    · exact hs.congr rfl fun p => by cases p <;> rfl
    · exact hs.respond .ok 0
  | mdrain =>
    cases h
    exact hs.unlessHalted (hs.drainMailbox.respond .ok 0)
  | cycle ign cp =>
    cases h
    exact hs.unlessHalted ((hs.cycleBody ign cp).respond .ok 0)
  | avg =>
    cases h
    exact hs.withCellArg (hs.respond .ok _)
  | avgt | ovq | uvq | balq | otq | statq | fltq | diagq | modeq | maskq =>
    cases h
    exact hs.respond .ok _
  | halt =>
    cases h
    exact hs.congr (by simp) (by simp)
  | afeSample | afeSelect | afeBalset | afeSleep | afeWake =>
    cases h
    exact hs.sendKind _ _ _

theorem of_step (hs : MasksZeroInDriving s) (h : step s = .next t) : MasksZeroInDriving t := by
  have htaken : MasksZeroInDriving s.taken := hs.congr s.taken_mode s.taken_mask
  obtain ⟨-, hidle⟩ | ⟨_, _, _, -, -, hillegal⟩ | ⟨_, _, _, -, -, hcommand⟩ := step_cases s
  · rw [hidle] at h
    cases h
    exact hs
  · rw [hillegal] at h
    cases h
    exact htaken.respond .illegal 0
  · rw [hcommand] at h
    exact htaken.of_exec h

end MasksZeroInDriving

/-! The frames of an acquisition (R120, R127). -/

/-- Every frame of an acquisition carries the mask it has read at the start. -/
theorem mask_bytes_of_frame_mem_acqEvents {c : Config} {p q : Pack} {m : Mask} {first last rx : Word24}
    {reads : List (Word24 × Int)} {t0 t1 t2 : Byte}
    (h : Event.frame q t0 t1 t2 rx ∈ acqEvents c p m first reads last) : t0 = hiByte m ∧ t1 = loByte m := by
  simp only [acqEvents_eq, acqCellEvents, List.mem_append, List.mem_flatMap, List.mem_cons, List.not_mem_nil,
    or_false, reduceCtorEq, Event.frame.injEq] at h
  obtain (⟨-, h0, h1, -⟩ | ⟨x, -, -, h0, h1, -⟩) | ⟨-, h0, h1, -⟩ := h <;> exact ⟨h0, h1⟩

/-- The same for the events ACQ appends to the trace: DIAG, the one other event, is no frame. -/
theorem mask_bytes_of_frame_mem_acquired {p q : Pack} {t0 t1 t2 : Byte} {rx : Word24}
    (h : Event.frame q t0 t1 t2 rx ∈ newEvents s (s.acquire p).done) :
    t0 = hiByte (s.mask p) ∧ t1 = loByte (s.mask p) := by
  obtain ⟨first, last, reads, -, htrace⟩ := acquire_trace (s := s) p
  rw [newEvents_of_append (by rw [State.done_trace, htrace, List.append_assoc])] at h
  obtain hlisted | hdiag := List.mem_append.mp h
  · exact mask_bytes_of_frame_mem_acqEvents hlisted
  · split at hdiag <;> simp at hdiag

end

/-- Settles O55: reset clears the masks, `MasksZeroInDriving.of_step` is the step, and ACQ's frames carry the zero mask. -/
theorem masksAreZeroInDriving : Obligations.MasksAreZeroInDriving := by
  refine ⟨fun c p _ => resetWith_mask p, fun s t hs h => MasksZeroInDriving.of_step hs h, fun p s hzero hmode hrun => ?_⟩
  refine ⟨(s.acquire p).done, exec_acq_awake p hrun (by simp [hmode]), fun q t0 t1 t2 rx hframe => ?_⟩
  obtain ⟨h0, h1⟩ := mask_bytes_of_frame_mem_acquired hframe
  rw [hzero p] at h0 h1
  exact ⟨h0, h1⟩

/-- Settles O8: the buffers, flags and bytes by the lemmas about the reset state, every other register by its definition;
reset queues no command, so the step is the idle wait. -/
theorem resetGivesTheResetState : Obligations.ResetGivesTheResetState := by
  intro c
  refine ⟨rfl, fun p => ?_, rfl, rfl, rfl, rfl, rfl, rfl, rfl, resetWith_overVoltage, resetWith_underVoltage,
    resetWith_balancing, rfl, resetWith_statusByte, faultByte_eq_zero _, rfl⟩
  simp [PackState.initial, Ring.empty]

end Sys2Proof.Proofs

/-! PROOFS. The round trip of the encodings (30_encoding.md R70 to R80): what the decoder reads from a packed word, and that
a word whose reserved bits are clear is packed from the fields the decoder reads; and the same for the AFE's frames. -/

namespace Sys2Proof.Proofs

open Sys2Proof
open Sys2Proof.Machine

/-! A packed word, read field by field (R71, R77). -/

section
variable {op : BitVec 4} {p : Pack} {low : BitVec 24}

@[simp] theorem packWord_opcode : (packWord op p low).extractLsb 31 28 = op :=
  calc (packWord op p low).extractLsb 31 28
    _ = (op ++ 0#3 ++ packBit p).extractLsb' 4 4 := BitVec.extractLsb'_append_eq_of_le (Nat.le_add_left 24 4)
    _ = (op ++ 0#3).extractLsb' 3 4 := BitVec.extractLsb'_append_eq_of_le (Nat.le_add_left 1 3)
    _ = op := BitVec.extractLsb'_append_eq_left

@[simp] theorem packWord_reserved : (packWord op p low).extractLsb 27 25 = 0 :=
  calc (packWord op p low).extractLsb 27 25
    _ = (op ++ 0#3 ++ packBit p).extractLsb' 1 3 := BitVec.extractLsb'_append_eq_of_le (Nat.le_add_left 24 1)
    _ = (op ++ 0#3).extractLsb' 0 3 := BitVec.extractLsb'_append_eq_of_le (Nat.le_refl 1)
    _ = 0 := BitVec.extractLsb'_append_eq_right

@[simp] theorem packWord_fieldP : fieldP (packWord op p low) = p := by
  unfold fieldP
  rw [Laws.packWord_getLsbD]
  cases p <;> rfl

/-- A field below bit 24 is a field of the low bits. -/
theorem packWord_extractLsb {hi lo : Nat} (h : lo + (hi - lo + 1) ≤ 24) :
    (packWord op p low).extractLsb hi lo = low.extractLsb hi lo :=
  BitVec.extractLsb'_append_eq_of_add_le h

/-! The four commands with an operand of more than one bit (R78). -/

theorem decode_encode_xfer3 (p : Pack) (b0 b1 b2 : Byte) :
    decode (packWord 0x1 p (b2 ++ b1 ++ b0)) = .ok (.xfer3 p b0 b1 b2) := by
  have h0 : (b2 ++ b1 ++ b0).extractLsb 7 0 = b0 := BitVec.extractLsb'_append_eq_right
  have h1 : (b2 ++ b1 ++ b0).extractLsb 15 8 = b1 :=
    (BitVec.extractLsb'_append_eq_of_le (Nat.le_refl 8)).trans BitVec.extractLsb'_append_eq_right
  have h2 : (b2 ++ b1 ++ b0).extractLsb 23 16 = b2 :=
    (BitVec.extractLsb'_append_eq_of_le (by decide : 8 ≤ 16)).trans BitVec.extractLsb'_append_eq_left
  simp [decode, decodeAs_ok_iff, reservedClear, Format.reserved, packWord_extractLsb, h0, h1, h2]

/-- A cell index is its own 4-bit field. -/
theorem toNat_ofNat_cell {j : Nat} (h : j ≤ 15) : (BitVec.ofNat 4 j).toNat = j :=
  Nat.mod_eq_of_lt (Nat.lt_succ_of_le h)

theorem decode_encode_push {j : Nat} {code : Int} (hj : j ≤ 15) (hlo : -32768 ≤ code) (hhi : code ≤ 32767) (p : Pack) :
    decode (packWord 0x4 p (BitVec.ofNat 4 j ++ 0#4 ++ BitVec.ofInt 16 code)) = .ok (.push p j code) := by
  have hcell (x : BitVec 4) (c : BitVec 16) : (x ++ 0#4 ++ c).extractLsb 23 20 = x :=
    (BitVec.extractLsb'_append_eq_of_le (by decide : 16 ≤ 20)).trans BitVec.extractLsb'_append_eq_left
  have hzero (x : BitVec 4) (c : BitVec 16) : (x ++ 0#4 ++ c).extractLsb 19 16 = 0#4 :=
    (BitVec.extractLsb'_append_eq_of_le (Nat.le_refl 16)).trans BitVec.extractLsb'_append_eq_right
  have hcode (x : BitVec 4) (c : BitVec 16) : (x ++ 0#4 ++ c).extractLsb 15 0 = c := BitVec.extractLsb'_append_eq_right
  have hint : (BitVec.ofInt 16 code).toInt = code := BitVec.toInt_ofInt_eq_self (by decide) (by omega) (by omega)
  simp [decode, decodeAs_ok_iff, reservedClear, Format.reserved, packWord_extractLsb, fieldJ, fieldCode,
    hcell, hzero, hcode, hint, toNat_ofNat_cell hj]

theorem decode_encode_pusht {tot : Int} (hlo : -524288 ≤ tot) (hhi : tot ≤ 524287) (p : Pack) :
    decode (packWord 0x5 p (0#4 ++ BitVec.ofInt 20 tot)) = .ok (.pusht p tot) := by
  have hzero (t : BitVec 20) : (0#4 ++ t).extractLsb 23 20 = 0#4 := BitVec.extractLsb'_append_eq_left
  have htot (t : BitVec 20) : (0#4 ++ t).extractLsb 19 0 = t := BitVec.extractLsb'_append_eq_right
  have hint : (BitVec.ofInt 20 tot).toInt = tot := BitVec.toInt_ofInt_eq_self (by decide) (by omega) (by omega)
  simp [decode, decodeAs_ok_iff, reservedClear, Format.reserved, packWord_extractLsb, fieldTot, hzero, htot, hint]

theorem decode_encode_avg {j : Nat} (hj : j ≤ 15) (p : Pack) :
    decode (packWord 0x6 p (BitVec.ofNat 4 j ++ 0#20)) = .ok (.avg p j) := by
  have hcell (x : BitVec 4) : (x ++ 0#20).extractLsb 23 20 = x := BitVec.extractLsb'_append_eq_left
  have hzero (x : BitVec 4) : (x ++ 0#20).extractLsb 19 0 = 0#20 := BitVec.extractLsb'_append_eq_right
  simp [decode, decodeAs_ok_iff, reservedClear, Format.reserved, packWord_extractLsb, fieldJ, hcell, hzero,
    toNat_ofNat_cell hj]

end

/-- The word of a well-formed command is decoded back: by the fields of a packed word, or, where the operands are single
bits, by evaluating each of the few words. -/
theorem decode_of_encode {i : Instr} (hwf : i.wellFormed = true) {w : Word} (h : encode i = some w) : decode w = .ok i := by
  cases i with
  | xfer3 p b0 b1 b2 => cases h; exact decode_encode_xfer3 p b0 b1 b2
  | push p j code =>
    simp only [Instr.wellFormed, Bool.and_eq_true, decide_eq_true_eq] at hwf
    obtain ⟨⟨hj, hlo⟩, hhi⟩ := hwf
    cases h; exact decode_encode_push hj hlo hhi p
  | pusht p tot =>
    simp only [Instr.wellFormed, Bool.and_eq_true, decide_eq_true_eq] at hwf
    cases h; exact decode_encode_pusht hwf.1 hwf.2 p
  | avg p j => cases h; exact decode_encode_avg (by simpa [Instr.wellFormed] using hwf) p
  | acq p | avgt p | diagq p | maskq p | balc p | balw p => cases h; cases p <;> rfl
  | seten p v => cases h; cases p <;> cases v <;> rfl
  | poll ign cp | cycle ign cp => cases h; cases ign <;> cases cp <;> rfl
  | mpost cp => cases h; cases cp <;> rfl
  | ovq | uvq | balq | otq | statq | fltq | modeq | mdrain | halt => cases h; rfl
  | afeSample | afeSelect | afeBalset | afeSleep | afeWake => cases h

/-- Every command has a word (R78). -/
theorem exists_encode_of_isCommand {i : Instr} (h : i.isCommand = true) : ∃ w, encode i = some w := by
  cases i with
  | xfer3 | seten | acq | push | pusht | avg | avgt | ovq | uvq | balq | otq | statq | fltq | diagq | modeq | maskq
  | balc | balw | poll | mpost | mdrain | cycle | halt => exact ⟨_, rfl⟩
  | afeSample | afeSelect | afeBalset | afeSleep | afeWake => exact absurd h Bool.false_ne_true

/-! A word rebuilt from its fields, in numbers (R70, R71). -/

theorem toNat_append_eq_add {m n : Nat} (x : BitVec m) (y : BitVec n) : (x ++ y).toNat = x.toNat * 2 ^ n + y.toNat := by
  rw [BitVec.toNat_append, ← Nat.shiftLeft_add_eq_or_of_lt y.isLt, Nat.shiftLeft_eq]

theorem toNat_extractLsb_div_mod {n : Nat} (hi lo : Nat) (x : BitVec n) :
    (x.extractLsb hi lo).toNat = x.toNat / 2 ^ lo % 2 ^ (hi - lo + 1) := by
  rw [BitVec.extractLsb_toNat, Nat.shiftRight_eq_div_pow]

/-- The bit k of a word, as a number. -/
theorem getLsbD_iff_div_mod (w : Word) (k : Nat) : w.getLsbD k = decide (w.toNat / 2 ^ k % 2 = 1) := by
  rw [← BitVec.testBit_toNat, Nat.testBit_eq_decide_div_mod_eq]

theorem toNat_packBit_fieldP (w : Word) : (packBit (fieldP w)).toNat = w.toNat / 2 ^ 24 % 2 := by
  rw [fieldP, getLsbD_iff_div_mod]
  obtain h | h := Nat.mod_two_eq_zero_or_one (w.toNat / 2 ^ 24) <;> rw [h] <;> rfl

theorem toNat_flagBit_getLsbD (w : Word) (k : Nat) : (flagBit (w.getLsbD k)).toNat = w.toNat / 2 ^ k % 2 := by
  rw [flagBit, BitVec.toNat_ofBool, getLsbD_iff_div_mod]
  obtain h | h := Nat.mod_two_eq_zero_or_one (w.toNat / 2 ^ k) <;> rw [h] <;> rfl

/-- A reserved field is clear exactly if the number in it is 0. -/
theorem reservedClear_iff_toNat (f : Format) (w : Word) :
    reservedClear f w = true ↔ ∀ r ∈ f.reserved, w.toNat / 2 ^ r.2 % 2 ^ (r.1 - r.2 + 1) = 0 := by
  simp only [reservedClear, List.all_eq_true, beq_iff_eq, ← BitVec.toNat_inj, toNat_extractLsb_div_mod,
    BitVec.ofNat_eq_ofNat, BitVec.toNat_ofNat, Nat.zero_mod]

theorem toNat_packWord (op : BitVec 4) (p : Pack) (low : BitVec 24) :
    (packWord op p low).toNat = op.toNat * 2 ^ 28 + (packBit p).toNat * 2 ^ 24 + low.toNat := by
  simp only [packWord, toNat_append_eq_add, BitVec.toNat_ofNat]
  omega

section
variable {w : Word} {op : BitVec 4} (hop : (w.extractLsb 31 28).toNat = op.toNat)
include hop

/-- A word is packed from its opcode, its pack field and its low 24 bits if w[27:25] is 0. -/
theorem packWord_eq_of_low {low : BitVec 24} (hreserved : w.toNat / 2 ^ 25 % 8 = 0) (hlow : low.toNat = w.toNat % 2 ^ 24) :
    packWord op (fieldP w) low = w := by
  apply BitVec.eq_of_toNat_eq
  have hlt := w.isLt
  rw [toNat_extractLsb_div_mod] at hop
  rw [toNat_packWord, toNat_packBit_fieldP, hlow]
  omega

/-- The formats with no pack field reserve bit 24 too, and are packed with pack 0. -/
theorem packWord_eq_of_low_of_reserved {low : BitVec 24} (hreserved : w.toNat / 2 ^ 24 % 16 = 0)
    (hlow : low.toNat = w.toNat % 2 ^ 24) : packWord op .p0 low = w := by
  have hp : fieldP w = .p0 := by
    rw [fieldP, getLsbD_iff_div_mod, if_neg]
    simp only [decide_eq_true_eq]
    omega
  rw [← hp]
  exact packWord_eq_of_low hop (by omega) hlow

/-! Format by format. -/

theorem packWord_eq_of_fx (h : reservedClear .fx w = true) :
    packWord op (fieldP w) (w.extractLsb 23 16 ++ w.extractLsb 15 8 ++ w.extractLsb 7 0) = w := by
  simp only [reservedClear_iff_toNat, Format.reserved, List.forall_mem_cons, List.not_mem_nil] at h
  refine packWord_eq_of_low hop (by omega) ?_
  simp only [toNat_append_eq_add, toNat_extractLsb_div_mod]
  omega

theorem packWord_eq_of_fp (h : reservedClear .fp w = true) : packWord op (fieldP w) 0 = w := by
  simp only [reservedClear_iff_toNat, Format.reserved, List.forall_mem_cons, List.not_mem_nil] at h
  refine packWord_eq_of_low hop (by omega) ?_
  simp only [BitVec.ofNat_eq_ofNat, BitVec.toNat_ofNat]
  omega

theorem packWord_eq_of_fpv (h : reservedClear .fpv w = true) :
    packWord op (fieldP w) (0#23 ++ flagBit (w.getLsbD 0)) = w := by
  simp only [reservedClear_iff_toNat, Format.reserved, List.forall_mem_cons, List.not_mem_nil] at h
  refine packWord_eq_of_low hop (by omega) ?_
  simp only [toNat_append_eq_add, toNat_flagBit_getLsbD, BitVec.toNat_ofNat]
  omega

theorem packWord_eq_of_fpjc (h : reservedClear .fpjc w = true) :
    packWord op (fieldP w) (w.extractLsb 23 20 ++ 0#4 ++ w.extractLsb 15 0) = w := by
  simp only [reservedClear_iff_toNat, Format.reserved, List.forall_mem_cons, List.not_mem_nil] at h
  refine packWord_eq_of_low hop (by omega) ?_
  simp only [toNat_append_eq_add, toNat_extractLsb_div_mod, BitVec.toNat_ofNat]
  omega

theorem packWord_eq_of_fpt (h : reservedClear .fpt w = true) :
    packWord op (fieldP w) (0#4 ++ w.extractLsb 19 0) = w := by
  simp only [reservedClear_iff_toNat, Format.reserved, List.forall_mem_cons, List.not_mem_nil] at h
  refine packWord_eq_of_low hop (by omega) ?_
  simp only [toNat_append_eq_add, toNat_extractLsb_div_mod, BitVec.toNat_ofNat]
  omega

theorem packWord_eq_of_fpj (h : reservedClear .fpj w = true) :
    packWord op (fieldP w) (w.extractLsb 23 20 ++ 0#20) = w := by
  simp only [reservedClear_iff_toNat, Format.reserved, List.forall_mem_cons, List.not_mem_nil] at h
  refine packWord_eq_of_low hop (by omega) ?_
  simp only [toNat_append_eq_add, toNat_extractLsb_div_mod, BitVec.toNat_ofNat]
  omega

theorem packWord_eq_of_fqp {low : BitVec 24} (hsub : (w.extractLsb 3 0).toNat = low.toNat)
    (h : reservedClear .fqp w = true) : packWord op (fieldP w) low = w := by
  simp only [reservedClear_iff_toNat, Format.reserved, List.forall_mem_cons, List.not_mem_nil] at h
  rw [toNat_extractLsb_div_mod] at hsub
  exact packWord_eq_of_low hop (by omega) (by omega)

theorem packWord_eq_of_fq {low : BitVec 24} (hsub : (w.extractLsb 3 0).toNat = low.toNat)
    (h : reservedClear .fq w = true) : packWord op .p0 low = w := by
  simp only [reservedClear_iff_toNat, Format.reserved, List.forall_mem_cons, List.not_mem_nil] at h
  rw [toNat_extractLsb_div_mod] at hsub
  exact packWord_eq_of_low_of_reserved hop (by omega) (by omega)

theorem packWord_eq_of_fic (h : reservedClear .fic w = true) :
    packWord op .p0 (0#22 ++ flagBit (w.getLsbD 1) ++ flagBit (w.getLsbD 0)) = w := by
  simp only [reservedClear_iff_toNat, Format.reserved, List.forall_mem_cons, List.not_mem_nil] at h
  refine packWord_eq_of_low_of_reserved hop (by omega) ?_
  simp only [toNat_append_eq_add, toNat_flagBit_getLsbD, BitVec.toNat_ofNat]
  omega

theorem packWord_eq_of_fc (h : reservedClear .fc w = true) :
    packWord op .p0 (0#23 ++ flagBit (w.getLsbD 0)) = w := by
  simp only [reservedClear_iff_toNat, Format.reserved, List.forall_mem_cons, List.not_mem_nil] at h
  refine packWord_eq_of_low_of_reserved hop (by omega) ?_
  simp only [toNat_append_eq_add, toNat_flagBit_getLsbD, BitVec.toNat_ofNat]
  omega

theorem packWord_eq_of_fn (h : reservedClear .fn w = true) : packWord op .p0 0 = w := by
  simp only [reservedClear_iff_toNat, Format.reserved, List.forall_mem_cons, List.not_mem_nil] at h
  refine packWord_eq_of_low_of_reserved hop (by omega) ?_
  simp only [BitVec.ofNat_eq_ofNat, BitVec.toNat_ofNat]
  omega

end

/-! The decoder's results, encoded back. -/

/-- The instruction i is a well-formed command whose word is w. -/
structure EncodesTo (i : Instr) (w : Word) : Prop where
  wellFormed : i.wellFormed = true
  isCommand : i.isCommand = true
  encode_eq : encode i = some w

section
variable {w : Word} {i : Instr}

theorem fieldJ_le (w : Word) : fieldJ w ≤ 15 := Nat.le_of_lt_succ (w.extractLsb 23 20).isLt

theorem fieldCode_bounds (w : Word) : -32768 ≤ fieldCode w ∧ fieldCode w ≤ 32767 := by
  have hbounds (x : BitVec 16) : -32768 ≤ x.toInt ∧ x.toInt ≤ 32767 :=
    ⟨BitVec.le_toInt x, Int.le_of_lt_add_one BitVec.toInt_lt⟩
  exact hbounds _

theorem fieldTot_bounds (w : Word) : -524288 ≤ fieldTot w ∧ fieldTot w ≤ 524287 := by
  have hbounds (x : BitVec 20) : -524288 ≤ x.toInt ∧ x.toInt ≤ 524287 :=
    ⟨BitVec.le_toInt x, Int.le_of_lt_add_one BitVec.toInt_lt⟩
  exact hbounds _

theorem encodesTo_push (hop : (w.extractLsb 31 28).toNat = 4) (h : reservedClear .fpjc w = true) :
    EncodesTo (.push (fieldP w) (fieldJ w) (fieldCode w)) w where
  wellFormed := by simp [Instr.wellFormed, fieldJ_le w, fieldCode_bounds w]
  isCommand := rfl
  encode_eq := by
    rw [encode, fieldJ, fieldCode, BitVec.ofInt_toInt, BitVec.ofNat_toNat, BitVec.setWidth_eq]
    exact congrArg some (packWord_eq_of_fpjc hop h)

theorem encodesTo_pusht (hop : (w.extractLsb 31 28).toNat = 5) (h : reservedClear .fpt w = true) :
    EncodesTo (.pusht (fieldP w) (fieldTot w)) w where
  wellFormed := by simp [Instr.wellFormed, fieldTot_bounds w]
  isCommand := rfl
  encode_eq := by
    rw [encode, fieldTot, BitVec.ofInt_toInt]
    exact congrArg some (packWord_eq_of_fpt hop h)

theorem encodesTo_avg (hop : (w.extractLsb 31 28).toNat = 6) (h : reservedClear .fpj w = true) :
    EncodesTo (.avg (fieldP w) (fieldJ w)) w where
  wellFormed := decide_eq_true (fieldJ_le w)
  isCommand := rfl
  encode_eq := by
    rw [encode, fieldJ, BitVec.ofNat_toNat, BitVec.setWidth_eq]
    exact congrArg some (packWord_eq_of_fpj hop h)

/-- A command whose operands are not restricted, by the word its format packs. -/
theorem encodesTo_of_packWord {op : BitVec 4} {p : Pack} {low : BitVec 24} (hwf : i.wellFormed = true)
    (hcommand : i.isCommand = true) (hencode : encode i = some (packWord op p low)) (h : packWord op p low = w) :
    EncodesTo i w :=
  ⟨hwf, hcommand, h ▸ hencode⟩

theorem encodesTo_of_decodeAs {f : Format} {j : Instr} (h : decodeAs f w j = .ok i)
    (hj : reservedClear f w = true → EncodesTo j w) : EncodesTo i w := by
  obtain ⟨hclear, rfl⟩ := (decodeAs_ok_iff f w j i).mp h
  exact hj hclear

theorem encodesTo_of_decodeQuery (hop : (w.extractLsb 31 28).toNat = 8) (h : decodeQuery w = .ok i) : EncodesTo i w := by
  unfold decodeQuery at h
  split at h
  case h_7 hsub | h_9 hsub =>
    exact encodesTo_of_decodeAs h fun hclear =>
      encodesTo_of_packWord rfl rfl rfl (packWord_eq_of_fqp hop hsub hclear)
  case h_10 => cases h
  all_goals
    next hsub =>
    exact encodesTo_of_decodeAs h fun hclear =>
      encodesTo_of_packWord rfl rfl rfl (packWord_eq_of_fq hop hsub hclear)

/-- What a word decodes to is a well-formed command and encodes to the word, opcode by opcode. -/
theorem encodesTo_of_decode (h : decode w = .ok i) : EncodesTo i w := by
  unfold decode at h
  split at h
  case h_1 hop =>
    exact encodesTo_of_decodeAs h fun hclear => encodesTo_of_packWord rfl rfl rfl (packWord_eq_of_fx hop hclear)
  case h_2 hop =>
    exact encodesTo_of_decodeAs h fun hclear => encodesTo_of_packWord rfl rfl rfl (packWord_eq_of_fpv hop hclear)
  case h_3 hop | h_7 hop | h_9 hop | h_10 hop =>
    exact encodesTo_of_decodeAs h fun hclear => encodesTo_of_packWord rfl rfl rfl (packWord_eq_of_fp hop hclear)
  case h_4 hop => exact encodesTo_of_decodeAs h (encodesTo_push hop)
  case h_5 hop => exact encodesTo_of_decodeAs h (encodesTo_pusht hop)
  case h_6 hop => exact encodesTo_of_decodeAs h (encodesTo_avg hop)
  case h_8 hop => exact encodesTo_of_decodeQuery hop h
  case h_11 hop | h_14 hop =>
    exact encodesTo_of_decodeAs h fun hclear => encodesTo_of_packWord rfl rfl rfl (packWord_eq_of_fic hop hclear)
  case h_12 hop =>
    exact encodesTo_of_decodeAs h fun hclear => encodesTo_of_packWord rfl rfl rfl (packWord_eq_of_fc hop hclear)
  case h_13 hop | h_15 hop =>
    exact encodesTo_of_decodeAs h fun hclear => encodesTo_of_packWord rfl rfl rfl (packWord_eq_of_fn hop hclear)
  case h_16 => cases h

end

/-! The frames of the AFE (R72, R75, R76). -/

section
variable {c : Config}

theorem append_control_low (m : Mask) (t : Byte) : (m ++ t).extractLsb 7 0 = t := BitVec.extractLsb'_append_eq_right

theorem append_control_high (m : Mask) (t : Byte) : (m ++ t).extractLsb 23 8 = m := BitVec.extractLsb'_append_eq_left

/-- The control bytes all differ: those of SAMPLE, BALSET, SLEEP and WAKE, and the select bytes of the pack's cells. -/
abbrev ControlBytesDiffer (c : Config) : Prop :=
  ([c.ctrlSample, c.ctrlBalset, c.ctrlSleep, c.ctrlWake] ++ (List.range c.numCells).map c.selectByte).Nodup

theorem selectedCell_eq_none {t : Byte} (h : ∀ j < c.numCells, c.selectByte j ≠ t) : selectedCell c t = none := by
  simpa [selectedCell, List.find?_eq_none] using h

theorem selectedCell_selectByte (hinj : ∀ i < c.numCells, ∀ j < c.numCells, c.selectByte i = c.selectByte j → i = j)
    {j : Nat} (hj : j < c.numCells) : selectedCell c (c.selectByte j) = some j := by
  have hsome : (selectedCell c (c.selectByte j)).isSome := by
    rw [selectedCell, List.find?_isSome]
    exact ⟨j, List.mem_range.mpr hj, beq_self_eq_true _⟩
  obtain ⟨i, hi⟩ := Option.isSome_iff_exists.mp hsome
  have hrange : i < c.numCells := List.mem_range.mp (List.mem_of_find?_eq_some hi)
  have hbyte : c.selectByte i = c.selectByte j := by simpa using List.find?_some hi
  rw [hi, hinj i hrange j hj hbyte]

/-- The frame of each kind is read as that kind: no earlier test of the reader is met by another kind's control byte. -/
theorem decodeFrame_of_encodeFrame (hdiffer : ControlBytesDiffer c) (p : Pack) (m : Mask) :
    decodeFrame c p (m ++ c.ctrlSample) = some (.afeSample p) ∧
      (∀ j < c.numCells, decodeFrame c p (m ++ c.selectByte j) = some (.afeSelect p j)) ∧
      decodeFrame c p (m ++ c.ctrlBalset) = some (.afeBalset p) ∧
      decodeFrame c p (0#16 ++ c.ctrlSleep) = some (.afeSleep p) ∧
      decodeFrame c p (0#16 ++ c.ctrlWake) = some (.afeWake p) := by
  simp only [ControlBytesDiffer, List.cons_append, List.nil_append, List.nodup_cons, List.mem_cons, List.mem_map,
    List.mem_range, not_or, not_exists, not_and, List.nodup_map_iff_inj_on List.nodup_range] at hdiffer
  obtain ⟨⟨hsb, hss, hsw, hsample⟩, ⟨hbs, hbw, hbalset⟩, ⟨hsl, hsleep⟩, hwake, hinj⟩ := hdiffer
  refine ⟨?_, fun j hj => ?_, ?_, ?_, ?_⟩
  · simp [decodeFrame, append_control_low]
  · simp [decodeFrame, append_control_low, hsample j hj, selectedCell_selectByte hinj hj]
  · simp [decodeFrame, append_control_low, Ne.symm hsb, selectedCell_eq_none hbalset]
  · simp [decodeFrame, append_control_low, append_control_high, Ne.symm hss, Ne.symm hbs, selectedCell_eq_none hsleep]
  · simp [decodeFrame, append_control_low, append_control_high, Ne.symm hsw, Ne.symm hbw, Ne.symm hsl,
      selectedCell_eq_none hwake]

end

/-- Settles O1: a command has a word, and `decode_of_encode` reads it back. -/
theorem commandsDecodeBack : Obligations.CommandsDecodeBack := by
  intro i hwf hcommand
  obtain ⟨w, hw⟩ := exists_encode_of_isCommand hcommand
  exact ⟨w, hw, decode_of_encode hwf hw⟩

/-- Settles O2: `encodesTo_of_decode`, format by format. -/
theorem decodedWordsEncodeBack : Obligations.DecodedWordsEncodeBack := by
  intro w i h
  obtain ⟨hwf, hcommand, hencode⟩ := encodesTo_of_decode h
  exact ⟨hwf, hcommand, hencode⟩

/-- Settles O6: `decodeFrame_of_encodeFrame` at the frame of the given kind. -/
theorem frameKindsReadBack : Obligations.FrameKindsReadBack := by
  intro c p m i f hdiffer hkind hframe
  obtain ⟨hsample, hselect, hbalset, hsleep, hwake⟩ := decodeFrame_of_encodeFrame hdiffer p m
  obtain rfl | ⟨j, hj, rfl⟩ | rfl | rfl | rfl := hkind <;> cases hframe
  · exact hsample
  · exact hselect j hj
  · exact hbalset
  · exact hsleep
  · exact hwake

end Sys2Proof.Proofs

/-! PROOFS. The assembler (30_encoding.md R85): a number's text is read back as the number, a line of text is cut into the
mnemonic and the operands it was written from, and whatever is read is a well-formed command. -/

namespace Sys2Proof.Proofs

open Sys2Proof
open Sys2Proof.Machine

/-! Words: the pieces a line is made of. -/

/-- A character of a mnemonic or an operand: no blank, and none of the line's own marks. -/
def wordChar (c : Char) : Bool := !asmBlank c && c != ',' && c != ';'

/-- A non-empty text of such characters. -/
structure AsmWord (t : List Char) : Prop where
  ne_nil : t ≠ []
  chars : t.all wordChar = true

namespace AsmWord

variable {t : List Char} (h : AsmWord t)
include h

theorem not_blank : ∀ c ∈ t, asmBlank c = false := by
  have hchars := h.chars
  simp only [wordChar, List.all_eq_true, Bool.and_eq_true, Bool.not_eq_true'] at hchars
  exact fun c hc => (hchars c hc).1.1

theorem not_comma : ∀ c ∈ t, (c == ',') = false := by
  have hchars := h.chars
  simp only [wordChar, List.all_eq_true, Bool.and_eq_true, bne] at hchars
  exact fun c hc => by simpa using (hchars c hc).1.2

theorem not_semicolon : ∀ c ∈ t, (c != ';') = true := by
  have hchars := h.chars
  simp only [wordChar, List.all_eq_true, Bool.and_eq_true] at hchars
  exact fun c hc => (hchars c hc).2

end AsmWord

/-! Numbers (R85). -/

theorem digitChar_wordChar : ∀ d < 16, wordChar (Nat.digitChar d) = true ∧ Nat.digitChar d ≠ '-' := by decide

/-- The characters of a number in base 10 or 16 are digits of that base. -/
theorem exists_digit_of_mem_toDigits {b n : Nat} (hb : 1 < b) {c : Char} (hc : c ∈ Nat.toDigits b n) :
    ∃ d < b, c = Nat.digitChar d := by
  induction n using Nat.strongRecOn with
  | ind n ih =>
    by_cases hn : n < b
    · rw [Nat.toDigits_of_lt_base hn, List.mem_singleton] at hc
      exact ⟨n, hn, hc⟩
    · have hle : b ≤ n := Nat.le_of_not_lt hn
      rw [Nat.toDigits_of_base_le hb hle, List.mem_append, List.mem_singleton] at hc
      obtain hrest | hlast := hc
      · exact ih (n / b) (Nat.div_lt_self (by omega) hb) hrest
      · exact ⟨n % b, Nat.mod_lt _ (by omega), hlast⟩

/-- One digit more, as the assembler reads a number. -/
def readDigit (hex : Bool) (acc : Option Nat) (c : Char) : Option Nat :=
  acc.bind fun a => (asmDigit hex c).map fun d => a * (if hex then 16 else 10) + d

theorem asmDigits_eq_foldl (hex : Bool) {t : List Char} (h : t ≠ []) :
    asmDigits hex t = t.foldl (readDigit hex) (some 0) := by
  cases t with
  | nil => exact absurd rfl h
  | cons c cs => rfl

theorem asmDigit_digitChar (hex : Bool) : ∀ d < (if hex then 16 else 10), asmDigit hex (Nat.digitChar d) = some d := by
  cases hex <;> decide

/-- The digits of a number are read back as the number, by induction on the number without its last digit. -/
theorem asmDigits_toDigits (hex : Bool) (n : Nat) : asmDigits hex (Nat.toDigits (if hex then 16 else 10) n) = some n := by
  have hb : 1 < (if hex then 16 else 10) := by cases hex <;> decide
  rw [asmDigits_eq_foldl hex Nat.toDigits_ne_nil]
  induction n using Nat.strongRecOn with
  | ind n ih =>
    by_cases hn : n < (if hex then 16 else 10)
    · rw [Nat.toDigits_of_lt_base hn]
      simp [readDigit, asmDigit_digitChar hex n hn]
    · have hle := Nat.le_of_not_lt hn
      rw [Nat.toDigits_of_base_le hb hle, List.foldl_append, ih _ (Nat.div_lt_self (by omega) hb), List.foldl_cons,
        List.foldl_nil, readDigit, asmDigit_digitChar hex _ (Nat.mod_lt _ (by omega))]
      exact congrArg some (Nat.div_add_mod' n _)

/-- The texts num n are words without a minus, and the assembler reads them as n. -/
structure Numeral (num : Nat → List Char) : Prop where
  asmNat_eq (n : Nat) : asmNat (num n) = some n
  word (n : Nat) : AsmWord (num n)
  no_minus (n : Nat) : '-' ∉ num n

theorem toDigits_all_wordChar {b : Nat} (hb : 1 < b) (hb16 : b ≤ 16) (n : Nat) :
    (Nat.toDigits b n).all wordChar = true := by
  rw [List.all_eq_true]
  intro c hc
  obtain ⟨d, hd, rfl⟩ := exists_digit_of_mem_toDigits hb hc
  exact (digitChar_wordChar d (by omega)).1

theorem minus_not_mem_toDigits {b : Nat} (hb : 1 < b) (hb16 : b ≤ 16) (n : Nat) : '-' ∉ Nat.toDigits b n := by
  intro hc
  obtain ⟨d, hd, h⟩ := exists_digit_of_mem_toDigits hb hc
  exact (digitChar_wordChar d (by omega)).2 h.symm

/-- A decimal number has no `x`, so it is not taken for a hexadecimal one. -/
theorem numeral_textDecimal : Numeral textDecimal where
  asmNat_eq n := by
    have hx : 'x' ∉ Nat.toDigits 10 n := fun hc =>
      absurd (Nat.isDigit_of_mem_toDigits (by decide) (by decide) hc) (by decide)
    unfold textDecimal asmNat
    split
    next h => simp [h] at hx
    next => exact asmDigits_toDigits false n
  word n := ⟨Nat.toDigits_ne_nil, toDigits_all_wordChar (by decide) (by decide) n⟩
  no_minus n := minus_not_mem_toDigits (by decide) (by decide) n

theorem numeral_textHex : Numeral textHex where
  asmNat_eq n := asmDigits_toDigits true n
  word n := ⟨List.cons_ne_nil _ _, toDigits_all_wordChar (b := 16) (by decide) (by decide) n⟩
  no_minus n := by simpa [textHex] using minus_not_mem_toDigits (b := 16) (by decide) (by decide) n

/-! Operands (R85). -/

namespace Numeral

variable {num : Nat → List Char} (h : Numeral num)
include h

theorem asmPack_textPack (p : Pack) : asmPack (textPack num p) = some p := by
  cases p <;> simp [asmPack, textPack, h.asmNat_eq]

theorem asmFlag_textFlag (v : Bool) : asmFlag (textFlag num v) = some v := by
  cases v <;> simp [asmFlag, textFlag, h.asmNat_eq]

theorem asmByte_num (b : Byte) : asmByte (num b.toNat) = some b := by
  have hlt : b.toNat ≤ 255 := Nat.le_of_lt_succ b.isLt
  simp [asmByte, h.asmNat_eq, hlt]

theorem asmCell_num {j : Nat} (hj : j ≤ 15) : asmCell (num j) = some j := by
  simp [asmCell, h.asmNat_eq, hj]

theorem asmInt_textInt (x : Int) : asmInt (textInt num x) = some x := by
  unfold textInt
  split
  next hneg =>
    simp [asmInt, h.asmNat_eq, abs_of_neg hneg]
  next hpos =>
    unfold asmInt
    split
    next htext => exact absurd (htext ▸ List.mem_cons_self) (h.no_minus x.natAbs)
    next =>
      simp [h.asmNat_eq]
      omega

theorem asmCode_textInt {x : Int} (hlo : -32768 ≤ x) (hhi : x ≤ 32767) : asmCode (textInt num x) = some x := by
  simp [asmCode, h.asmInt_textInt, hlo, hhi]

theorem asmTot_textInt {x : Int} (hlo : -524288 ≤ x) (hhi : x ≤ 524287) : asmTot (textInt num x) = some x := by
  simp [asmTot, h.asmInt_textInt, hlo, hhi]

theorem word_textPack (p : Pack) : AsmWord (textPack num p) := by
  cases p <;> exact h.word _

theorem word_textFlag (v : Bool) : AsmWord (textFlag num v) := h.word _

theorem word_textInt (x : Int) : AsmWord (textInt num x) := by
  unfold textInt
  split
  next => exact ⟨List.cons_ne_nil _ _, (h.word x.natAbs).chars⟩
  next => exact h.word _

end Numeral

/-! Blanks and commas. -/

theorem dropWhile_asmBlank_cons {c : Char} (hc : asmBlank c = false) (t : List Char) :
    (c :: t).dropWhile asmBlank = c :: t := by
  simp [hc]

/-- A text with no comment that neither begins nor ends with a blank. -/
structure AsmText (t : List Char) : Prop where
  ne_nil : t ≠ []
  head_not_blank : ∀ c ∈ t.head?, asmBlank c = false
  last_not_blank : ∀ c ∈ t.getLast?, asmBlank c = false
  not_semicolon : ∀ c ∈ t, (c != ';') = true

theorem AsmWord.text {t : List Char} (h : AsmWord t) : AsmText t where
  ne_nil := h.ne_nil
  head_not_blank c hc := h.not_blank c (List.mem_of_mem_head? hc)
  last_not_blank c hc := h.not_blank c (List.mem_of_mem_getLast? hc)
  not_semicolon := h.not_semicolon

namespace AsmText

variable {t u : List Char}

theorem append (ht : AsmText t) (hu : AsmText u) {mid : List Char} (hmid : ∀ c ∈ mid, (c != ';') = true) :
    AsmText (t ++ (mid ++ u)) where
  ne_nil := List.append_ne_nil_of_left_ne_nil ht.ne_nil _
  head_not_blank := by
    rw [List.head?_append_of_ne_nil _ ht.ne_nil]
    exact ht.head_not_blank
  last_not_blank := by
    rw [← List.append_assoc, List.getLast?_append_of_ne_nil _ hu.ne_nil]
    exact hu.last_not_blank
  not_semicolon := by
    simp only [List.forall_mem_append]
    exact ⟨ht.not_semicolon, hmid, hu.not_semicolon⟩

theorem dropWhile_asmBlank (h : ∀ c ∈ t.head?, asmBlank c = false) : t.dropWhile asmBlank = t := by
  cases t with
  | nil => rfl
  | cons c t => simp [h c rfl]

theorem asmTrim_eq (h : AsmText t) : asmTrim t = t := by
  have hlast : ∀ c ∈ t.reverse.head?, asmBlank c = false := by
    rw [List.head?_reverse]
    exact h.last_not_blank
  rw [asmTrim, dropWhile_asmBlank h.head_not_blank, dropWhile_asmBlank hlast, List.reverse_reverse]

theorem asmStrip_eq (h : AsmText t) : asmStrip t = t := List.takeWhile_eq_self_iff.mpr h.not_semicolon

theorem asmStrip_comment (h : AsmText t) (comment : List Char) : asmStrip (t ++ ';' :: comment) = t := by
  rw [asmStrip, List.takeWhile_append_of_pos h.not_semicolon]
  simp

end AsmText

theorem asmTrim_blank_cons {c : Char} (hc : asmBlank c = true) (t : List Char) : asmTrim (c :: t) = asmTrim t := by
  simp [asmTrim, hc]

theorem asmText_intercalate (o : List Char) (os : List (List Char)) (h : ∀ t ∈ o :: os, AsmWord t) :
    AsmText ([',', ' '].intercalate (o :: os)) := by
  induction os generalizing o with
  | nil =>
    rw [List.intercalate_singleton]
    exact (h o List.mem_cons_self).text
  | cons o' os ih =>
    obtain ⟨ho, hos⟩ := List.forall_mem_cons.mp h
    rw [List.intercalate_cons_cons, List.append_assoc]
    exact ho.text.append (ih o' hos) (by simp)

/-- One character, in front of the pieces the text behind it is cut into at its commas. -/
def cutComma (c : Char) (acc : List (List Char)) : List (List Char) :=
  match acc with
  | [] => [[c]]
  | w :: ws => if c == ',' then [] :: w :: ws else (c :: w) :: ws

theorem asmSplit_eq (t : List Char) :
    asmSplit t = if asmTrim t = [] then [] else (t.foldr cutComma [[]]).map asmTrim := rfl

theorem foldr_cutComma {t : List Char} (ht : ∀ c ∈ t, (c == ',') = false) (w : List Char) (ws : List (List Char)) :
    t.foldr cutComma (w :: ws) = (t ++ w) :: ws := by
  induction t with
  | nil => rfl
  | cons c t ih =>
    rw [List.forall_mem_cons] at ht
    rw [List.foldr_cons, ih ht.2]
    simp [cutComma, ht.1]

/-- Operands written one after the other are cut at the commas between them. -/
theorem foldr_cutComma_intercalate (o : List Char) (os : List (List Char)) (h : ∀ t ∈ o :: os, AsmWord t) :
    (' ' :: [',', ' '].intercalate (o :: os)).foldr cutComma [[]] = (o :: os).map (' ' :: ·) := by
  induction os generalizing o with
  | nil =>
    obtain ⟨ho, -⟩ := List.forall_mem_cons.mp h
    rw [List.intercalate_singleton, List.foldr_cons, foldr_cutComma ho.not_comma]
    simp [cutComma]
  | cons o' os ih =>
    obtain ⟨ho, hos⟩ := List.forall_mem_cons.mp h
    have hrest := ih o' hos
    rw [List.foldr_cons] at hrest
    rw [List.intercalate_cons_cons, List.foldr_cons, List.append_assoc, List.foldr_append]
    simp only [List.cons_append, List.nil_append, List.foldr_cons, hrest]
    have hcut : cutComma ',' ((o' :: os).map (' ' :: ·)) = [] :: (o' :: os).map (' ' :: ·) := rfl
    rw [hcut, foldr_cutComma ho.not_comma]
    simp [cutComma]

/-- The operands of a line are split into the words they were written from. -/
theorem asmSplit_intercalate (o : List Char) (os : List (List Char)) (h : ∀ t ∈ o :: os, AsmWord t) :
    asmSplit (' ' :: [',', ' '].intercalate (o :: os)) = o :: os := by
  have htext := asmText_intercalate o os h
  have htrim : ∀ t ∈ o :: os, asmTrim (' ' :: t) = t := fun t ht => by
    rw [asmTrim_blank_cons rfl, (h t ht).text.asmTrim_eq]
  rw [asmSplit_eq, asmTrim_blank_cons rfl, htext.asmTrim_eq, if_neg htext.ne_nil, foldr_cutComma_intercalate o os h,
    List.map_map]
  exact (List.map_congr_left htrim).trans (List.map_id _)

/-! Lines (R85). -/

/-- What follows the mnemonic of a line: nothing, or a blank and the operands. -/
def operandText (operands : List (List Char)) : List Char :=
  if operands = [] then [] else ' ' :: [',', ' '].intercalate operands

theorem textLine_eq (m : List Char) (operands : List (List Char)) : textLine m operands = m ++ operandText operands := rfl

theorem asmSplit_operandText {operands : List (List Char)} (h : ∀ t ∈ operands, AsmWord t) :
    asmSplit (operandText operands) = operands := by
  cases operands with
  | nil => rfl
  | cons o os => exact asmSplit_intercalate o os h

theorem asmText_textLine {m : List Char} {operands : List (List Char)} (hm : AsmWord m)
    (h : ∀ t ∈ operands, AsmWord t) : AsmText (textLine m operands) := by
  cases operands with
  | nil => simpa [textLine] using hm.text
  | cons o os => exact hm.text.append (mid := [' ']) (asmText_intercalate o os h) (by simp)

/-- The mnemonic of a line ends at its first blank. -/
theorem cut_at_blank {m t : List Char} (hm : AsmWord m) (ht : ∀ c ∈ t.head?, asmBlank c = true) :
    (m ++ t).takeWhile (fun c => !asmBlank c) = m ∧ (m ++ t).dropWhile (fun c => !asmBlank c) = t := by
  have hword : ∀ c ∈ m, (!asmBlank c) = true := fun c hc => by simp [hm.not_blank c hc]
  rw [List.takeWhile_append_of_pos hword, List.dropWhile_append_of_pos hword]
  cases t with
  | nil => simp
  | cons c t => simp [ht c rfl]

theorem operandText_head_blank (operands : List (List Char)) : ∀ c ∈ (operandText operands).head?, asmBlank c = true := by
  cases operands with
  | nil => simp [operandText]
  | cons o os =>
    intro c hc
    obtain rfl : ' ' = c := Option.some.inj hc
    rfl

/-- A line whose text without comment is a mnemonic with operands is the command these make. -/
theorem assembleLine_of_strip {line m : List Char} {operands : List (List Char)} {i : Instr} (hm : AsmWord m)
    (hops : ∀ t ∈ operands, AsmWord t) (hstrip : asmStrip line = textLine m operands)
    (h : asmCommand m operands = some i) : assembleLine line = .command i := by
  have htext := asmText_textLine hm hops
  obtain ⟨hname, hrest⟩ := cut_at_blank hm (operandText_head_blank operands)
  rw [← textLine_eq] at hname hrest
  simp only [assembleLine, hstrip, htext.asmTrim_eq, if_neg htext.ne_nil, hname, hrest, asmSplit_operandText hops, h]

/-- The line is taken as the command, with or without a comment behind it. -/
def AssemblesTo (line : List Char) (i : Instr) : Prop :=
  assembleLine line = .command i ∧ ∀ comment, assembleLine (line ++ ';' :: comment) = .command i

theorem assemblesTo_textLine {m : List Char} {operands : List (List Char)} {i : Instr} (hm : AsmWord m)
    (hops : ∀ t ∈ operands, AsmWord t) (h : asmCommand m operands = some i) : AssemblesTo (textLine m operands) i :=
  have htext := asmText_textLine hm hops
  ⟨assembleLine_of_strip hm hops htext.asmStrip_eq h,
    fun comment => assembleLine_of_strip hm hops (htext.asmStrip_comment comment) h⟩

theorem bind_map_some {α β γ : Type} {x : Option α} {y : Option β} {a : α} {b : β} (hx : x = some a) (hy : y = some b)
    (f : α → β → γ) : (x >>= fun a => y.map (f a)) = some (f a b) := by
  rw [hx, hy]
  rfl

/-- Every well-formed command has a line, which assembles to it: its operands' texts are words, and are read back. -/
theorem exists_line_of_command {num : Nat → List Char} (hnum : Numeral num) {i : Instr} (hwf : i.wellFormed = true)
    (hcommand : i.isCommand = true) : ∃ line, asmText num i = some line ∧ AssemblesTo line i := by
  have hpack := hnum.word_textPack
  have hflag := hnum.word_textFlag
  cases i with
  | xfer3 p b0 b1 b2 =>
    have hbytes : asmXfer3 (textPack num p) (num b0.toNat) (num b1.toNat) (num b2.toNat) = some (.xfer3 p b0 b1 b2) := by
      simp [asmXfer3, hnum.asmPack_textPack, hnum.asmByte_num]
    exact ⟨_, rfl, assemblesTo_textLine ⟨by simp, by decide⟩ (by simp [hpack, hnum.word]) hbytes⟩
  | push p j code =>
    simp only [Instr.wellFormed, Bool.and_eq_true, decide_eq_true_eq] at hwf
    obtain ⟨⟨hj, hlo⟩, hhi⟩ := hwf
    have hread : (asmPack (textPack num p) >>= fun p => asmCell (num j) >>= fun j =>
        (asmCode (textInt num code)).map (Instr.push p j)) = some (.push p j code) := by
      simp [hnum.asmPack_textPack, hnum.asmCell_num hj, hnum.asmCode_textInt hlo hhi]
    exact ⟨_, rfl, assemblesTo_textLine ⟨by simp, by decide⟩ (by simp [hpack, hnum.word, hnum.word_textInt]) hread⟩
  | pusht p tot =>
    simp only [Instr.wellFormed, Bool.and_eq_true, decide_eq_true_eq] at hwf
    exact ⟨_, rfl, assemblesTo_textLine ⟨by simp, by decide⟩ (by simp [hpack, hnum.word_textInt])
      (bind_map_some (hnum.asmPack_textPack p) (hnum.asmTot_textInt hwf.1 hwf.2) Instr.pusht)⟩
  | avg p j =>
    exact ⟨_, rfl, assemblesTo_textLine ⟨by simp, by decide⟩ (by simp [hpack, hnum.word])
      (bind_map_some (hnum.asmPack_textPack p) (hnum.asmCell_num (of_decide_eq_true hwf)) Instr.avg)⟩
  | seten p v =>
    exact ⟨_, rfl, assemblesTo_textLine ⟨by simp, by decide⟩ (by simp [hpack, hflag])
      (bind_map_some (hnum.asmPack_textPack p) (hnum.asmFlag_textFlag v) Instr.seten)⟩
  | poll ign cp | cycle ign cp =>
    exact ⟨_, rfl, assemblesTo_textLine ⟨by simp, by decide⟩ (by simp [hflag])
      (bind_map_some (hnum.asmFlag_textFlag ign) (hnum.asmFlag_textFlag cp) _)⟩
  | acq p | avgt p | diagq p | maskq p | balc p | balw p =>
    exact ⟨_, rfl, assemblesTo_textLine ⟨by simp, by decide⟩ (by simp [hpack])
      (congrArg (Option.map _) (hnum.asmPack_textPack p))⟩
  | mpost cp =>
    exact ⟨_, rfl, assemblesTo_textLine ⟨by simp, by decide⟩ (by simp [hflag])
      (congrArg (Option.map _) (hnum.asmFlag_textFlag cp))⟩
  | ovq | uvq | balq | otq | statq | fltq | modeq | mdrain | halt =>
    exact ⟨_, rfl, assemblesTo_textLine ⟨by simp, by decide⟩ (by simp) rfl⟩
  | afeSample | afeSelect | afeBalset | afeSleep | afeWake => exact absurd hcommand Bool.false_ne_true

/-! The other way: what the assembler takes is a well-formed command. -/

theorem asmCell_le {t : List Char} {j : Nat} (h : asmCell t = some j) : j ≤ 15 := by
  simp only [asmCell, Option.bind_eq_some_iff, Option.ite_none_right_eq_some, Option.some.injEq] at h
  obtain ⟨n, -, hle, rfl⟩ := h
  exact hle

theorem asmCode_bounds {t : List Char} {x : Int} (h : asmCode t = some x) : -32768 ≤ x ∧ x ≤ 32767 := by
  simp only [asmCode, Option.bind_eq_some_iff, Option.ite_none_right_eq_some, Option.some.injEq] at h
  obtain ⟨n, -, hle, rfl⟩ := h
  exact hle

theorem asmTot_bounds {t : List Char} {x : Int} (h : asmTot t = some x) : -524288 ≤ x ∧ x ≤ 524287 := by
  simp only [asmTot, Option.bind_eq_some_iff, Option.ite_none_right_eq_some, Option.some.injEq] at h
  obtain ⟨n, -, hle, rfl⟩ := h
  exact hle

/-- What is read, if anything is, is a well-formed command. -/
def ReadsCommand (o : Option Instr) : Prop := ∀ i, o = some i → i.wellFormed = true ∧ i.isCommand = true

theorem readsCommand_map {α : Type} {x : Option α} {f : α → Instr}
    (hf : ∀ a, x = some a → (f a).wellFormed = true ∧ (f a).isCommand = true) : ReadsCommand (x.map f) := by
  intro i h
  obtain ⟨a, ha, rfl⟩ := Option.map_eq_some_iff.mp h
  exact hf a ha

theorem readsCommand_bind {α : Type} {x : Option α} {f : α → Option Instr} (hf : ∀ a, x = some a → ReadsCommand (f a)) :
    ReadsCommand (x >>= f) := by
  intro i h
  obtain ⟨a, ha, hi⟩ := Option.bind_eq_some_iff.mp h
  exact hf a ha i hi

/-- A command with one operand, and one with two, where no operand is restricted. -/
theorem readsCommand_one {α : Type} {x : Option α} {f : α → Instr}
    (hf : ∀ a, (f a).wellFormed = true ∧ (f a).isCommand = true) : ReadsCommand (x.map f) :=
  readsCommand_map fun a _ => hf a

theorem readsCommand_two {α β : Type} {x : Option α} {y : Option β} {f : α → β → Instr}
    (hf : ∀ a b, (f a b).wellFormed = true ∧ (f a b).isCommand = true) : ReadsCommand (x >>= fun a => y.map (f a)) :=
  readsCommand_bind fun a _ => readsCommand_one (hf a)

theorem readsCommand_xfer3 (p b0 b1 b2 : List Char) : ReadsCommand (asmXfer3 p b0 b1 b2) :=
  readsCommand_bind fun _ _ => readsCommand_bind fun _ _ => readsCommand_two fun _ _ => ⟨rfl, rfl⟩

theorem readsCommand_push (p j code : List Char) :
    ReadsCommand (asmPack p >>= fun p => asmCell j >>= fun j => (asmCode code).map (Instr.push p j)) :=
  readsCommand_bind fun _ _ => readsCommand_bind fun _ hj => readsCommand_map fun _ hcode =>
    ⟨by simp [Instr.wellFormed, asmCell_le hj, asmCode_bounds hcode], rfl⟩

theorem readsCommand_pusht (p tot : List Char) :
    ReadsCommand (asmPack p >>= fun p => (asmTot tot).map (Instr.pusht p)) :=
  readsCommand_bind fun _ _ => readsCommand_map fun _ htot => ⟨by simp [Instr.wellFormed, asmTot_bounds htot], rfl⟩

theorem readsCommand_avg (p j : List Char) : ReadsCommand (asmPack p >>= fun p => (asmCell j).map (Instr.avg p)) :=
  readsCommand_bind fun _ _ => readsCommand_map fun _ hj => ⟨by simp [Instr.wellFormed, asmCell_le hj], rfl⟩

theorem cases_of_dite_eq {α : Type} {P : Prop} [Decidable P] {t : P → α} {e : ¬ P → α} {x : α} (h : dite P t e = x) :
    (∃ hP, t hP = x) ∨ (∃ hP, e hP = x) := by
  split at h
  · exact .inl ⟨_, h⟩
  · exact .inr ⟨_, h⟩

/-- The match on the mnemonic compares it letter by letter: a letter is the one asked for, or the next one is asked for, and
where no letter and no operand is left, the command is read. Every other path reads nothing. (`split` on the match as a whole
is past the heartbeat limit, so the comparisons are followed one at a time.) -/
theorem readsCommand_asmCommand (m : List Char) (ops : List (List Char)) : ReadsCommand (asmCommand m ops) := by
  intro i h
  delta asmCommand asmCommand.match_1 at h
  rcases m with _ | ⟨c, m⟩
  · cases h
  repeat'
    first
    | (cases h; done)
    | (replace h := cases_of_dite_eq h; rcases h with ⟨rfl, h⟩ | ⟨-, h⟩)
    | (rcases m with _ | ⟨c, m⟩)
    | (rcases ops with _ | ⟨p, ops⟩)
  all_goals try (cases h; exact ⟨rfl, rfl⟩)
  · exact readsCommand_xfer3 _ _ _ _ i h
  · exact readsCommand_two (f := Instr.seten) (fun _ _ => ⟨rfl, rfl⟩) i h
  · exact readsCommand_one (f := Instr.acq) (fun _ => ⟨rfl, rfl⟩) i h
  · exact readsCommand_avg _ _ i h
  · exact readsCommand_one (f := Instr.avgt) (fun _ => ⟨rfl, rfl⟩) i h
  · exact readsCommand_push _ _ _ i h
  · exact readsCommand_pusht _ _ i h
  · exact readsCommand_two (f := Instr.poll) (fun _ _ => ⟨rfl, rfl⟩) i h
  · exact readsCommand_one (f := Instr.balc) (fun _ => ⟨rfl, rfl⟩) i h
  · exact readsCommand_one (f := Instr.balw) (fun _ => ⟨rfl, rfl⟩) i h
  · exact readsCommand_one (f := Instr.maskq) (fun _ => ⟨rfl, rfl⟩) i h
  · exact readsCommand_one (f := Instr.mpost) (fun _ => ⟨rfl, rfl⟩) i h
  · exact readsCommand_one (f := Instr.diagq) (fun _ => ⟨rfl, rfl⟩) i h
  · exact readsCommand_two (f := Instr.cycle) (fun _ _ => ⟨rfl, rfl⟩) i h

theorem command_of_assembleLine {line : List Char} {i : Instr} (h : assembleLine line = .command i) :
    i.wellFormed = true ∧ i.isCommand = true := by
  unfold assembleLine at h
  dsimp only at h
  split at h
  · cases h
  · split at h
    next hcommand =>
      cases h
      exact readsCommand_asmCommand _ _ _ hcommand
    next => cases h

/-- Settles O7: `exists_line_of_command` for decimal and hexadecimal numbers, and `command_of_assembleLine`; the word is the
command's own, which decodes back. -/
theorem assembledLinesAreCommandsWithWords : Obligations.AssembledLinesAreCommandsWithWords := by
  refine ⟨fun i hwf hcommand num hnum => ?_, fun line i hline => ?_⟩
  · obtain rfl | rfl := hnum
    · exact exists_line_of_command numeral_textDecimal hwf hcommand
    · exact exists_line_of_command numeral_textHex hwf hcommand
  · obtain ⟨hwf, hcommand⟩ := command_of_assembleLine hline
    obtain ⟨w, hw, hdecode⟩ := commandsDecodeBack i hwf hcommand
    exact ⟨hwf, hcommand, w, by rw [assembleWord, hline]; exact hw, hdecode⟩

end Sys2Proof.Proofs

/-! PROOFS. The ring buffer's invariant (10_state.md R26; 43_filter.md R140, R147): a push keeps it and slides the window,
the window alone decides what later pushes show, and its values bound the sum; so AVG and AVGT answer count and sum in full. -/

namespace Sys2Proof.Proofs

open Sys2Proof
open Sys2Proof.Machine

section
variable {lo hi : Int} {b : Ring}

/-! A push (R140). -/

/-- The window a push leaves, in both cases of the fill (R146). -/
theorem RingShape.window_push (h : RingShape b) (x : Int) :
    (b.push x).window = if b.count < cap then b.window ++ [x] else b.window.tail ++ [x] := by
  split
  next hfill => exact h.window_push_filling x hfill
  next hfull => exact h.window_push_evicting x (Nat.not_lt.mp hfull)

/-- A push of a value in the range keeps the invariant: the one slot it writes holds that value. -/
theorem wf_push (h : b.wf lo hi) {x : Int} (hlo : lo ≤ x) (hhi : x ≤ hi) : (b.push x).wf lo hi := by
  obtain ⟨hshape, hvalues⟩ := (wf_iff_ringShape lo hi b).mp h
  refine (wf_iff_ringShape lo hi _).mpr ⟨hshape.push x, fun y hy => ?_⟩
  rw [Ring.push_slots] at hy
  obtain hold | rfl := List.mem_or_eq_of_mem_set hy
  · exact hvalues y hold
  · exact ⟨hlo, hhi⟩

theorem wf_empty (hlo : lo ≤ 0) (hhi : 0 ≤ hi) : Ring.empty.wf lo hi := by
  refine (wf_iff_ringShape lo hi _).mpr ⟨ringShape_empty, fun x hx => ?_⟩
  rw [List.eq_of_mem_replicate hx]
  exact ⟨hlo, hhi⟩

/-! What the window decides (D37). -/

/-- Two sound buffers with the same window have the same count, so the same push leaves them with the same window. -/
theorem window_push_congr {a : Ring} (ha : RingShape a) (hb : RingShape b) (h : a.window = b.window) (x : Int) :
    (a.push x).window = (b.push x).window := by
  have hcount : a.count = b.count := by rw [← ha.length_window, h, hb.length_window]
  rw [ha.window_push, hb.window_push, hcount, h]

theorem RingShape.pushes (h : RingShape b) (xs : List Int) : RingShape (xs.foldl Ring.push b) := by
  induction xs generalizing b with
  | nil => exact h
  | cons x xs ih => exact ih (h.push x)

theorem window_pushes_congr {a : Ring} (ha : RingShape a) (hb : RingShape b) (h : a.window = b.window) (xs : List Int) :
    (xs.foldl Ring.push a).window = (xs.foldl Ring.push b).window := by
  induction xs generalizing a b with
  | nil => exact h
  | cons x xs ih => exact ih (ha.push x) (hb.push x) (window_push_congr ha hb h x)

/-! The sum (R147). -/

/-- The samples of the window are values of slots. -/
theorem mem_slots_of_mem_window {x : Int} (h : x ∈ b.window) : x ∈ b.slots := by
  unfold Ring.window at h
  split at h
  · exact List.mem_of_mem_take h
  · rw [List.mem_append] at h
    exact h.elim List.mem_of_mem_drop List.mem_of_mem_take

theorem sum_bounds {xs : List Int} (h : ∀ x ∈ xs, lo ≤ x ∧ x ≤ hi) : xs.length * lo ≤ xs.sum ∧ xs.sum ≤ xs.length * hi := by
  induction xs with
  | nil => simp
  | cons x xs ih =>
    obtain ⟨hx, hxs⟩ := List.forall_mem_cons.mp h
    obtain ⟨hlo, hhi⟩ := ih hxs
    simp only [List.length_cons, List.sum_cons, Nat.cast_add, Nat.cast_one, add_mul, one_mul]
    omega

/-- At most CAP samples make up the sum; an empty window's is 0. -/
theorem wf_sum_bounds (h : b.wf lo hi) (hlo : lo ≤ 0) (hhi : 0 ≤ hi) : cap * lo ≤ b.sum ∧ b.sum ≤ cap * hi := by
  obtain ⟨hshape, hvalues⟩ := (wf_iff_ringShape lo hi b).mp h
  obtain ⟨hle, hge⟩ := sum_bounds fun x hx => hvalues x (mem_slots_of_mem_window hx)
  have hcount : (b.window.length : Int) ≤ cap := by
    rw [hshape.length_window]
    exact_mod_cast hshape.count_le
  rw [hshape.sum_eq]
  exact ⟨(mul_le_mul_of_nonpos_right hcount hlo).trans hle, hge.trans (mul_le_mul_of_nonneg_right hcount hhi)⟩

theorem cellWf_sum_bounds (h : b.cellWf) : -655360 ≤ b.sum ∧ b.sum ≤ 655340 :=
  wf_sum_bounds h (by decide) (by decide)

theorem totWf_sum_bounds (h : b.totWf) : -10485760 ≤ b.sum ∧ b.sum ≤ 10485740 :=
  wf_sum_bounds h (by decide) (by decide)

theorem wf_count_head_lt (h : b.wf lo hi) : b.count < 32 ∧ b.head < 32 := by
  obtain ⟨⟨-, hcount, hhead, -, -⟩, -⟩ := (wf_iff_ringShape lo hi b).mp h
  exact ⟨hcount.trans_lt (by decide), hhead.trans (by decide)⟩

/-! The response of AVG and AVGT (R84, R143, R144). -/

theorem meanValue_count (h : b.count < 32) : ((meanValue b).extractLsb 31 27).toNat = b.count := by
  have hfield : (meanValue b).extractLsb 31 27 = BitVec.ofNat 5 b.count :=
    (BitVec.extractLsb'_append_eq_of_le (by decide : 25 ≤ 27)).trans BitVec.extractLsb'_append_eq_left
  rw [hfield]
  exact Nat.mod_eq_of_lt h

theorem meanValue_reserved : (meanValue b).extractLsb 26 25 = 0 :=
  (BitVec.extractLsb'_append_eq_of_le (Nat.le_refl 25)).trans BitVec.extractLsb'_append_eq_right

theorem meanValue_sum (hlo : -10485760 ≤ b.sum) (hhi : b.sum ≤ 10485740) :
    ((meanValue b).extractLsb 24 0).toInt = b.sum := by
  have hfield : (meanValue b).extractLsb 24 0 = BitVec.ofInt 25 b.sum := BitVec.extractLsb'_append_eq_right
  rw [hfield]
  exact BitVec.toInt_ofInt_eq_self (by decide) (by omega) (by omega)

/-- Count and sum are read back from the value, and so is the mean (R148). -/
theorem meanValue_reads_back (c : Config) (hcount : b.count < 32) (hlo : -10485760 ≤ b.sum) (hhi : b.sum ≤ 10485740) :
    ((meanValue b).extractLsb 31 27).toNat = b.count ∧ (meanValue b).extractLsb 26 25 = 0 ∧
      ((meanValue b).extractLsb 24 0).toInt = b.sum ∧
      b.meanVolts c = (if b.count = 0 then none else some ((((meanValue b).extractLsb 24 0).toInt : ℚ) * c.scale /
        (((meanValue b).extractLsb 31 27).toNat : ℚ))) := by
  rw [meanValue_count hcount, meanValue_sum hlo hhi]
  exact ⟨rfl, meanValue_reserved, rfl, rfl⟩

end

/-- Settles O23: `wf_push` for the invariant, `RingShape.window_push` for the window. -/
theorem pushSlidesTheWindow : Obligations.PushSlidesTheWindow := by
  intro lo hi b x h hlo hhi
  obtain ⟨hshape, -⟩ := (wf_iff_ringShape lo hi b).mp h
  exact ⟨wf_push h hlo hhi, hshape.window_push x, hshape.push_count x, b.push_head x⟩

/-- Settles O25: the windows stay equal, and count and sum are the window's length and sum. -/
theorem unwrittenSlotsAreNeverSeen : Obligations.UnwrittenSlotsAreNeverSeen := by
  intro lo hi a b xs ha hb hwindow _
  obtain ⟨ha, -⟩ := (wf_iff_ringShape lo hi a).mp ha
  obtain ⟨hb, -⟩ := (wf_iff_ringShape lo hi b).mp hb
  have hpushed := window_pushes_congr ha hb hwindow xs
  refine ⟨hpushed, ?_, ?_⟩
  · rw [← (ha.pushes xs).length_window, hpushed, (hb.pushes xs).length_window]
  · rw [(ha.pushes xs).sum_eq, hpushed, (hb.pushes xs).sum_eq]

/-- Settles O26: at most 20 samples of 16 and of 20 bits make sums of 21 and of 25 bits. -/
theorem sumsFitTheirWidths : Obligations.SumsFitTheirWidths := by
  refine fun b => ⟨fun h => ?_, fun h => ?_⟩
  · obtain ⟨hlo, hhi⟩ := cellWf_sum_bounds h
    exact ⟨hlo, hhi, BitVec.toInt_ofInt_eq_self (by decide) (by omega) (by omega), wf_count_head_lt h⟩
  · obtain ⟨hlo, hhi⟩ := totWf_sum_bounds h
    exact ⟨hlo, hhi, BitVec.toInt_ofInt_eq_self (by decide) (by omega) (by omega), wf_count_head_lt h⟩

/-- Settles O27: the answer is `meanValue`, whose fields a cell buffer's count and sum fit. -/
theorem avgAnswersCountAndSum : Obligations.AvgAnswersCountAndSum := by
  intro p j s hj h
  obtain ⟨hlo, hhi⟩ := cellWf_sum_bounds h
  obtain ⟨hcount, -⟩ := wf_count_head_lt h
  exact ⟨_, exec_avg_inside p hj, meanValue_reads_back s.cfg hcount (by omega) (by omega)⟩

/-- Settles O28: the same for a total buffer. -/
theorem avgtAnswersCountAndSum : Obligations.AvgtAnswersCountAndSum := by
  intro p s h
  obtain ⟨hlo, hhi⟩ := totWf_sum_bounds h
  obtain ⟨hcount, -⟩ := wf_count_head_lt h
  exact ⟨meanValue (s.tot p), rfl, meanValue_reads_back s.cfg hcount hlo hhi⟩

end Sys2Proof.Proofs

/-! PROOFS. The exact next state of single commands: the transport commands and the frame kinds (41_transport.md R102, R103;
30_encoding.md R75), PUSH and PUSHT (43_filter.md R141, R142), the queries (44_comparator.md R160 to R169), BALC and BALW
(45_balance.md R180, R181), and the mode controller's commands (46_mode.md R212 to R216). -/

namespace Sys2Proof.Proofs

open Sys2Proof
open Sys2Proof.Machine

section
variable {s : State}

/-! Flag values (R84). -/

theorem flagValue_eq (b : Bool) : flagValue b = if b then 1 else 0 := by
  cases b <;> rfl

theorem flagValue_eq_zero_or_one (b : Bool) : flagValue b = 0 ∨ flagValue b = 1 := by
  cases b
  · exact .inl rfl
  · exact .inr rfl

theorem flagValue_eq_one_iff (b : Bool) : flagValue b = 1 ↔ b = true := by
  cases b <;> decide

/-- The three flags of STATQ side by side are their values shifted to bits 0, 1 and 2 (R164). -/
theorem byteValue_three_flags (bal uv ov : Bool) :
    byteValue (0#5 ++ BitVec.ofBool bal ++ BitVec.ofBool uv ++ BitVec.ofBool ov) =
        flagValue ov ||| flagValue uv <<< 1 ||| flagValue bal <<< 2 ∧
      (flagValue ov ||| flagValue uv <<< 1 ||| flagValue bal <<< 2).toNat < 8 := by
  cases bal <;> cases uv <;> cases ov <;> decide

/-! The frame kinds (R75; log 9). -/

theorem sendKind_running (hrun : s.halted = false) (p : Pack) (m : Mask) (t : Byte) :
    s.sendKind p m t = s.sendMask p m t :=
  if_neg (by simp [hrun])

/-! Commands that only the halt refuses (R233). -/

theorem exec_xfer3_running (p : Pack) (b0 b1 b2 : Byte) (hrun : s.halted = false) :
    exec (.xfer3 p b0 b1 b2) s = .next ((s.frame p b0 b1 b2).respond .ok (rxValue s.nextRx)) :=
  congrArg Host.Outcome.next (s.unlessHalted_running _ hrun)

theorem exec_seten_running (p : Pack) (v : Bool) (hrun : s.halted = false) :
    exec (.seten p v) s = .next (s.setLine p v).done :=
  congrArg Host.Outcome.next (s.unlessHalted_running _ hrun)

theorem exec_pusht_running (p : Pack) (x : Int) (hrun : s.halted = false) :
    exec (.pusht p x) s = .next (s.pushTot p x).done :=
  congrArg Host.Outcome.next (s.unlessHalted_running _ hrun)

theorem exec_poll_running (ign cp : Bool) (hrun : s.halted = false) :
    exec (.poll ign cp) s = .next (s.pollInputs ign cp).done :=
  congrArg Host.Outcome.next (s.unlessHalted_running _ hrun)

theorem exec_mpost_running (cp : Bool) (hrun : s.halted = false) :
    exec (.mpost cp) s = .next (if s.cfg.cpIrqEnable then { s with mbox := some cp } else s).done :=
  congrArg Host.Outcome.next (s.unlessHalted_running _ hrun)

/-- Emptying the mailbox and applying its level is a row of the transition table (R193, R214). -/
theorem drainMailbox_empty (h : s.mbox = none) : s.drainMailbox = s := by
  obtain ⟨-, hs⟩ | ⟨v, hsome, -⟩ := s.drainMailbox_cases
  · exact hs
  · rw [h] at hsome
    cases hsome

theorem drainMailbox_full {v : Bool} (h : s.mbox = some v) :
    s.drainMailbox = State.afterTransition { s with mbox := none } s.ignDb v := by
  obtain ⟨hnone, -⟩ | ⟨u, hsome, hs⟩ := s.drainMailbox_cases
  · rw [h] at hnone
    cases hnone
  · rw [h] at hsome
    cases hsome
    exact hs.trans trans_eq_afterTransition

end

/-- Settles O4: the two cases of what the block finds when it looks for a command. -/
theorem stepRunsTheDecodedCommand : Obligations.StepRunsTheDecodedCommand := by
  refine fun s => ⟨fun hidle => ?_, fun w rest i hcmds hdecode => step_of_decode_ok hdecode hcmds⟩
  obtain ⟨-, hstep⟩ | ⟨w, rest, e, hcmds, -⟩ | ⟨w, rest, i, hcmds, -⟩ := step_cases s
  · exact hstep
  all_goals
    rw [hidle] at hcmds
    cases hcmds

/-- Settles O11: the body of XFER3 behind the HALTED check. -/
theorem xfer3SendsOneRawFrame : Obligations.Xfer3SendsOneRawFrame :=
  fun p b0 b1 b2 _ hrun => exec_xfer3_running p b0 b1 b2 hrun

/-- Settles O13: the body of SETEN, for either pack. -/
theorem setenDrivesTheEnableLine : Obligations.SetenDrivesTheEnableLine := by
  intro p v s hrun
  rw [exec_seten_running p v hrun]
  cases p <;> rfl

/-- Settles O14: a frame kind sends its frame, or while halted none. -/
theorem afeFrameKindsSendTheirFrame : Obligations.AfeFrameKindsSendTheirFrame := by
  refine fun p j s => ⟨fun hrun => ?_, fun hhalted => ?_⟩
  · exact ⟨congrArg Host.Outcome.next (sendKind_running hrun p _ _),
      congrArg Host.Outcome.next (sendKind_running hrun p _ _),
      congrArg Host.Outcome.next (sendKind_running hrun p _ _),
      congrArg Host.Outcome.next (sendKind_running hrun p _ _),
      congrArg Host.Outcome.next (sendKind_running hrun p _ _)⟩
  · exact ⟨congrArg Host.Outcome.next (sendKind_of_halted hhalted p _ _),
      congrArg Host.Outcome.next (sendKind_of_halted hhalted p _ _),
      congrArg Host.Outcome.next (sendKind_of_halted hhalted p _ _),
      congrArg Host.Outcome.next (sendKind_of_halted hhalted p _ _),
      congrArg Host.Outcome.next (sendKind_of_halted hhalted p _ _)⟩

/-- Settles O21: PUSH past its checks is one push into one cell buffer. -/
theorem pushCommandPushesTheCode : Obligations.PushCommandPushesTheCode :=
  fun p _ code _ hrun hj => exec_push_inside p code hrun hj

/-- Settles O22: PUSHT past its check is one push into the total buffer. -/
theorem pushtCommandPushesTheTotal : Obligations.PushtCommandPushesTheTotal :=
  fun p x _ hrun => exec_pusht_running p x hrun

/-- Settles O29: the flag's value is 1 exactly if OV holds, which `overVoltage_iff` gives in rationals. -/
theorem ovqIsTheExactComparison : Obligations.OvqIsTheExactComparison := by
  intro s hlegal
  refine ⟨flagValue s.overVoltage, rfl, flagValue_eq_zero_or_one _, ?_⟩
  rw [flagValue_eq_one_iff, overVoltage_iff hlegal]

/-- Settles O30: the flag's value is 1 exactly if UV holds, which `underVoltage_iff` gives in rationals. -/
theorem uvqIsTheExactComparison : Obligations.UvqIsTheExactComparison := by
  intro s hlegal
  refine ⟨flagValue s.underVoltage, rfl, flagValue_eq_zero_or_one _, ?_⟩
  rw [flagValue_eq_one_iff, underVoltage_iff hlegal]

/-- Settles O31: BAL says that some pack's mask is not zero. -/
theorem balqReadsTheMasks : Obligations.BalqReadsTheMasks := by
  intro s
  have hanswer : exec .balq s = .next (s.respond .ok (flagValue s.balancing)) := rfl
  rw [hanswer, flagValue_eq]
  simp only [balancing_iff, exists_pack_iff]
  rfl

/-- Settles O32: no bit of OTQ's or FLTQ's value depends on the state. -/
theorem otqAndFltqAnswerZero : Obligations.OtqAndFltqAnswerZero := by
  intro s
  have hfltq : exec .fltq s = .next (s.respond .ok (byteValue s.faultByte)) := rfl
  rw [hfltq, faultByte_eq_zero]
  exact ⟨rfl, rfl⟩

/-- Settles O33: the status byte is the three flags side by side. -/
theorem statqPacksTheThreeFlags : Obligations.StatqPacksTheThreeFlags := by
  intro s
  obtain ⟨hbyte, hlt⟩ := byteValue_three_flags s.balancing s.underVoltage s.overVoltage
  have hstatq : exec .statq s = .next (s.respond .ok (byteValue s.statusByte)) := rfl
  rw [State.statusByte, hbyte] at hstatq
  exact ⟨flagValue s.overVoltage, flagValue s.underVoltage, flagValue s.balancing, rfl, rfl, rfl, hstatq, hlt⟩

/-- Settles O34: the three reads; the flag's value and the mode's are the numbers the rules give. -/
theorem registerQueriesReadTheirRegister : Obligations.RegisterQueriesReadTheirRegister := by
  intro p s
  refine ⟨?_, congrArg (fun v => Host.Outcome.next (s.respond .ok v)) ?_, rfl⟩
  · have hdiagq : exec (.diagq p) s = .next (s.respond .ok (flagValue (s.pack p).diag)) := rfl
    rw [hdiagq, flagValue_eq]
    rfl
  · cases s.mode <;> rfl

/-- Settles O37: the mask written is the rebuilt one, whose bits `getLsbD_dischargeMask` gives. -/
theorem balcRebuildsTheMask : Obligations.BalcRebuildsTheMask := by
  intro p s hlegal hrun hmode
  exact ⟨s.dischargeMask p, exec_balc_charging p hrun hmode, fun j hj => getLsbD_dischargeMask hlegal p hj⟩

/-- Settles O38: BALW and AFE.BALSET send the same frame. -/
theorem balwCommitsTheMask : Obligations.BalwCommitsTheMask := by
  intro p s hrun hmode
  refine ⟨exec_balw_charging p hrun hmode, s.commitMask p, ?_, exec_balw_charging p hrun hmode⟩
  exact congrArg Host.Outcome.next (sendKind_running hrun p _ _)

/-- Settles O42: POLL is the debouncer and then the transition function, which is the table. -/
theorem pollDebouncesThenTransitions : Obligations.PollDebouncesThenTransitions := by
  intro ign cp s d hrun hd
  obtain rfl : d = s.debounce ign := hd
  rw [exec_poll_running ign cp hrun, State.pollInputs, trans_eq_afterTransition]
  rfl

/-- Settles O45: MPOST's body in the two cases of CP_IRQ_ENABLE. -/
theorem mpostFillsTheMailbox : Obligations.MpostFillsTheMailbox := by
  intro cp s hrun
  rw [exec_mpost_running cp hrun]
  split <;> rfl

/-- Settles O46: MDRAIN's body in the two cases of the mailbox. -/
theorem mdrainAppliesTheMailbox : Obligations.MdrainAppliesTheMailbox := by
  refine fun s hrun => ⟨fun hempty => ?_, fun v hfull => ?_⟩
  · rw [exec_mdrain_running hrun, drainMailbox_empty hempty]
    rfl
  · rw [exec_mdrain_running hrun, drainMailbox_full hfull]
    rfl

/-- Settles O47: HALT's body, which has no check. -/
theorem haltSetsOnlyTheHaltFlag : Obligations.HaltSetsOnlyTheHaltFlag := fun _ => rfl

/-- Settles O60: every arm of exec answers a next state, and so does a step with no word and with an ILLEGAL word. -/
theorem everyStepAnswersANextState : Obligations.EveryStepAnswersANextState := by
  have hexec (i : Instr) (s : State) : ∃ t, exec i s = .next t := by
    cases i <;> exact ⟨_, rfl⟩
  refine ⟨fun s => ?_, hexec⟩
  obtain ⟨-, hstep⟩ | ⟨_, _, _, -, -, hstep⟩ | ⟨_, _, i, -, -, hstep⟩ := step_cases s
  · exact ⟨s, hstep⟩
  · exact ⟨_, hstep⟩
  · rw [hstep]
    exact hexec i s.taken

end Sys2Proof.Proofs

/-! PROOFS. The scheduler cycle as the sequence of its commands (47_cycle.md R220): no step of the cycle reads or writes the
response, so the commands' own responses between the steps leave no trace in the end. -/

namespace Sys2Proof.Proofs

open Sys2Proof
open Sys2Proof.Machine

section
variable {s : State}

/-- The operation neither reads nor writes the response: a response given before it is still there after it. -/
def KeepsResponse (f : State → State) : Prop := ∀ (s : State) (c : Code) (v : Word), f (s.respond c v) = (f s).respond c v

theorem KeepsResponse.done {f : State → State} (h : KeepsResponse f) (s : State) : f s.done = (f s).done := h s .ok 0

@[simp] theorem done_done : s.done.done = s.done := rfl

/-! The acquisition (R120). -/

/-- An acquisition under way, with a response given before it. -/
def AcqProgress.respond (a : AcqProgress) (c : Code) (v : Word) : AcqProgress := { a with st := a.st.respond c v }

theorem acqCell_respond (p : Pack) (m : Mask) (a : AcqProgress) (j : Nat) (c : Code) (v : Word) :
    acqCell p m (AcqProgress.respond a c v) j = AcqProgress.respond (acqCell p m a j) c v := by
  cases p <;> rfl

theorem acqCells_respond (p : Pack) (m : Mask) (js : List Nat) (a : AcqProgress) (c : Code) (v : Word) :
    js.foldl (acqCell p m) (AcqProgress.respond a c v) = AcqProgress.respond (js.foldl (acqCell p m) a) c v := by
  induction js generalizing a with
  | nil => rfl
  | cons j js ih => rw [List.foldl_cons, acqCell_respond, ih, List.foldl_cons]

theorem acqFinish_respond (p : Pack) (m : Mask) (a : AcqProgress) (c : Code) (v : Word) :
    acqFinish p m (AcqProgress.respond a c v) = (acqFinish p m a).respond c v := by
  cases hdiag : a.diag <;> by_cases hsum : a.st.cfg.totalSource = .cellSum
  all_goals
    simp only [acqFinish, AcqProgress.respond, State.sendMask_cfg, State.respond_cfg, hdiag, hsum, reduceIte,
      Bool.false_eq_true]
    cases p <;> rfl

theorem acquire_keepsResponse (p : Pack) : KeepsResponse fun s => s.acquire p := by
  intro s c v
  have hsample : acqSample (s.respond c v) p (s.mask p) = AcqProgress.respond (acqSample s p (s.mask p)) c v := rfl
  simp only [State.acquire, State.respond_mask, State.respond_cfg, hsample, acqCells_respond, acqFinish_respond]

/-! The other steps (R221, R224, R226). -/

theorem rebuildMask_keepsResponse (p : Pack) : KeepsResponse fun s => s.rebuildMask p := by
  intro s c v
  cases p <;> rfl

theorem commitMask_keepsResponse (p : Pack) : KeepsResponse fun s => s.commitMask p := by
  intro s c v
  cases p <;> rfl

theorem debounce_keepsResponse (x : Bool) : KeepsResponse fun s => s.debounce x := by
  intro s c v
  change (s.respond c v).debounce x = (s.debounce x).respond c v
  obtain ⟨h, hs⟩ | ⟨h, hcnt, hs⟩ | ⟨h, hcnt, hs⟩ := s.debounce_cases x <;> rw [hs]
  · exact debounce_agreeing (s := s.respond c v) h
  · exact debounce_reaching (s := s.respond c v) h hcnt
  · exact debounce_counting (s := s.respond c v) h hcnt

theorem trans_keepsResponse (ign cp : Bool) : KeepsResponse fun s => s.trans ign cp := by
  intro s c v
  simp only [trans_eq_afterTransition, State.afterTransition, State.respond_mode]
  cases transitionEffect s.mode ign cp <;> rfl

theorem pollInputs_keepsResponse (ign cp : Bool) : KeepsResponse fun s => s.pollInputs ign cp := by
  intro s c v
  simp only [State.pollInputs, debounce_keepsResponse ign s c v, State.respond_ignDb]
  exact trans_keepsResponse _ cp _ c v

/-! The halt flag, which the commands check and the cycle checks once (R220, R233). -/

@[simp] theorem trans_halted (ign cp : Bool) : (s.trans ign cp).halted = s.halted := by
  obtain ⟨-, -, -, hhalted, -⟩ := s.trans_frame ign cp
  exact hhalted

@[simp] theorem drainMailbox_halted : s.drainMailbox.halted = s.halted := by
  obtain ⟨-, hs⟩ | ⟨v, -, hs⟩ := s.drainMailbox_cases <;> rw [hs]
  exact trans_halted s.ignDb v

@[simp] theorem acquire_halted (p : Pack) : (s.acquire p).halted = s.halted := by
  obtain ⟨-, -, -, -, -, hhalted, -⟩ := s.acquire_sameButPack p
  exact hhalted

@[simp] theorem cycleAcquire_halted : s.cycleAcquire.halted = s.halted := by
  unfold State.cycleAcquire
  split <;> simp

@[simp] theorem balancePack_halted (p : Pack) : (s.balancePack p).halted = s.halted := rebuildMask_halted p

@[simp] theorem balancePack_mode (p : Pack) : (s.balancePack p).mode = s.mode := rebuildMask_mode p

@[simp] theorem cycleActions_halted : s.cycleActions.halted = s.halted := by
  unfold State.cycleActions
  split <;> simp

/-! The commands one after another, each from the state and the response the one before it left. -/

variable (hrun : s.halted = false)
include hrun

/-- Step 2 is ACQ 0 and ACQ 1 (R222). -/
theorem exec_both_acq (hmode : s.mode ≠ .standby) :
    ∃ a, exec (.acq .p0) s.done = .next a ∧ exec (.acq .p1) a = .next s.cycleAcquire.done := by
  refine ⟨(s.acquire .p0).done, ?_, ?_⟩
  · rw [exec_acq_awake .p0 (by simpa using hrun) (by simpa using hmode), (acquire_keepsResponse .p0).done, done_done]
  · rw [exec_acq_awake .p1 (by simpa using hrun) (by simpa using hmode), (acquire_keepsResponse .p1).done, done_done,
      cycleAcquire_awake hmode]

/-- Step 4 for one pack is BALC and BALW (R224). -/
theorem exec_balc_balw (p : Pack) (hmode : s.mode = .charging) :
    ∃ b, exec (.balc p) s.done = .next b ∧ exec (.balw p) b = .next (s.balancePack p).done := by
  refine ⟨(s.rebuildMask p).done, ?_, ?_⟩
  · rw [exec_balc_charging p (by simpa using hrun) (by simpa using hmode), (rebuildMask_keepsResponse p).done, done_done]
  · rw [exec_balw_charging p (by simpa using hrun) (by simpa using hmode), (commitMask_keepsResponse p).done, done_done,
      State.balancePack]

/-- Step 4 as a whole: nothing, TELEMETRY, or both packs' commands and CAN (R224, R225). -/
theorem exec_actions :
    (s.mode = .standby ∧ s.cycleActions.done = s.done) ∨
      (s.mode = .driving ∧ s.cycleActions.done = { s.done with trace := s.trace ++ [.telemetry] }) ∨
      (s.mode = .charging ∧ ∃ b0 w0 b1 w1,
        exec (.balc .p0) s.done = .next b0 ∧ exec (.balw .p0) b0 = .next w0 ∧
        exec (.balc .p1) w0 = .next b1 ∧ exec (.balw .p1) b1 = .next w1 ∧
        s.cycleActions.done = { w1 with trace := w1.trace ++ [.can w1.statusByte w1.faultByte] }) := by
  cases hmode : s.mode with
  | standby => exact .inl ⟨rfl, by rw [cycleActions_standby hmode]⟩
  | driving => exact .inr (.inl ⟨rfl, by rw [cycleActions_driving hmode]; rfl⟩)
  | charging =>
    obtain ⟨b0, hb0, hw0⟩ := exec_balc_balw hrun .p0 hmode
    obtain ⟨b1, hb1, hw1⟩ := exec_balc_balw (s := s.balancePack .p0) (by simpa using hrun) .p1 (by simpa using hmode)
    refine .inr (.inr ⟨rfl, b0, _, b1, _, hb0, hw0, hb1, hw1, ?_⟩)
    rw [cycleActions_charging hmode, statusByte_congr (State.done_cfg _) (State.done_cell _) (State.done_mask _)]
    rfl

end

/-- Settles O51: the five steps of the cycle, each answered by its commands from the state the step before it leaves. -/
theorem cycleIsTheSequenceOfItsCommands : Obligations.CycleIsTheSequenceOfItsCommands := by
  intro ign cp s hrun
  have hdrained : s.drainMailbox.halted = false := by simpa using hrun
  have hacquired : s.drainMailbox.cycleAcquire.halted = false := by simpa using hrun
  have hacted : s.drainMailbox.cycleAcquire.cycleActions.halted = false := by simpa using hrun
  refine ⟨s.drainMailbox.done, s.drainMailbox.cycleAcquire.done, s.drainMailbox.cycleAcquire.cycleActions.done,
    (s.cycleBody ign cp).done, exec_mdrain_running hrun, ?_, exec_actions hacquired, ?_, exec_cycle_running hrun⟩
  · by_cases hmode : s.drainMailbox.mode = .standby
    · exact .inl ⟨hmode, by rw [cycleAcquire_standby hmode]⟩
    · exact .inr ⟨hmode, exec_both_acq hdrained hmode⟩
  · rw [exec_poll_running ign cp (by simpa using hacted), (pollInputs_keepsResponse ign cp).done, done_done,
      State.cycleBody]

end Sys2Proof.Proofs

/-! PROOFS. What one instruction does, once for all of them (60_exceptions.md R230 to R233): it is refused, or it runs the body
its command has behind the checks; either way it ends with a response. So a property of every step is a property of each body
and of the response. -/

namespace Sys2Proof.Proofs

open Sys2Proof
open Sys2Proof.Machine

/-- What an instruction does when its checks let it: the transfer, write or action of its rule, without the response. -/
def bodyOf (s : State) : Instr → State
  | .xfer3 p b0 b1 b2 => s.frame p b0 b1 b2
  | .seten p v => s.setLine p v
  | .acq p => s.acquire p
  | .push p j code => s.pushCell p j code
  | .pusht p tot => s.pushTot p tot
  | .balc p => s.rebuildMask p
  | .balw p => s.commitMask p
  | .poll ign cp => s.pollInputs ign cp
  | .mpost cp => if s.cfg.cpIrqEnable then { s with mbox := some cp } else s
  | .mdrain => s.drainMailbox
  | .cycle ign cp => s.cycleBody ign cp
  | .halt => s.enterHalt
  | .avg _ _ => s
  | .avgt _ => s
  | .ovq => s
  | .uvq => s
  | .balq => s
  | .otq => s
  | .statq => s
  | .fltq => s
  | .diagq _ => s
  | .modeq => s
  | .maskq _ => s
  | .afeSample p => s.sendMask p (s.mask p) s.cfg.ctrlSample
  | .afeSelect p j => s.sendMask p (s.mask p) (s.cfg.selectByte j)
  | .afeBalset p => s.sendMask p (s.mask p) s.cfg.ctrlBalset
  | .afeSleep p => s.sendMask p 0 s.cfg.ctrlSleep
  | .afeWake p => s.sendMask p 0 s.cfg.ctrlWake

section
variable {s t u : State} {i : Instr}

/-- The instruction passes its checks: no code refuses it, and a frame kind is not sent while halted (R233). -/
structure Runs (s : State) (i : Instr) : Prop where
  not_refused : ∀ c, ¬ Refused s i c
  frame_running : i.isCommand = false → s.halted = false

/-- The two states agree but for the response, which t may have changed. -/
def OnlyResponds (s t : State) : Prop := t = { s with resp := t.resp }

theorem onlyResponds_of_exec {c : Code} {v : Word} (h : exec i s = .next t) (hexec : exec i s = .next (u.respond c v)) :
    OnlyResponds u t := by
  rw [hexec] at h
  cases h
  rfl

/-- A command that runs ends with its body and a response. -/
theorem exec_of_runs (hruns : Runs s i) (h : exec i s = .next t) : OnlyResponds (bodyOf s i) t := by
  have hrun (hi : refusedWhileHalted i = true) : s.halted = false :=
    Bool.eq_false_iff.mpr fun hhalted => hruns.not_refused _ (.halted hhalted hi)
  cases i with
  | xfer3 | seten | pusht | poll | mpost | mdrain | cycle =>
    exact onlyResponds_of_exec h (congrArg Host.Outcome.next (s.unlessHalted_running _ (hrun rfl)))
  | acq p =>
    have hmode : s.mode ≠ .standby := fun hmode => hruns.not_refused _ (.acq (hrun rfl) hmode)
    exact onlyResponds_of_exec h (exec_acq_awake p (hrun rfl) hmode)
  | push p j code =>
    have hj : j < s.cfg.numCells := not_le.mp fun hj => hruns.not_refused _ (.push (hrun rfl) hj)
    exact onlyResponds_of_exec h (exec_push_inside p code (hrun rfl) hj)
  | avg p j =>
    have hj : j < s.cfg.numCells := not_le.mp fun hj => hruns.not_refused _ (.avg hj)
    exact onlyResponds_of_exec h (exec_avg_inside p hj)
  | balc p =>
    have hmode : s.mode = .charging := not_not.mp fun hmode => hruns.not_refused _ (.balc (hrun rfl) hmode)
    exact onlyResponds_of_exec h (exec_balc_charging p (hrun rfl) hmode)
  | balw p =>
    have hmode : s.mode = .charging := not_not.mp fun hmode => hruns.not_refused _ (.balw (hrun rfl) hmode)
    exact onlyResponds_of_exec h (exec_balw_charging p (hrun rfl) hmode)
  | avgt | ovq | uvq | balq | otq | statq | fltq | diagq | modeq | maskq | halt =>
    cases h
    rfl
  | afeSample | afeSelect | afeBalset | afeSleep | afeWake =>
    cases h
    rw [sendKind_running (hruns.frame_running rfl)]
    rfl

/-- An instruction that does not run leaves a response at most (R231). -/
theorem exec_of_not_runs (hruns : ¬ Runs s i) (h : exec i s = .next t) : OnlyResponds s t := by
  by_cases hrefused : ∃ c, Refused s i c
  · obtain ⟨c, hc⟩ := hrefused
    exact onlyResponds_of_exec h (exec_of_refused hc)
  · have hhalted : s.halted = true := by
      by_contra hrun
      exact hruns ⟨not_exists.mp hrefused, fun _ => Bool.eq_false_iff.mpr hrun⟩
    exact exec_halted_writes_resp hhalted h

/-- What one step can do: take at most a word and respond, or run the body of a command, which has a word. -/
theorem step_writes (h : step s = .next t) :
    t = { s with cmds := t.cmds, resp := t.resp } ∨
      ∃ i w, decode w = .ok i ∧ Runs s.taken i ∧ OnlyResponds (bodyOf s.taken i) t := by
  obtain ⟨-, hs⟩ | ⟨_, _, _, -, -, hs⟩ | ⟨w, _, i, -, hdecode, hs⟩ := step_cases s <;> rw [hs] at h
  · cases h
    exact .inl rfl
  · cases h
    exact .inl rfl
  · by_cases hruns : Runs s.taken i
    · exact .inr ⟨i, w, hdecode, hruns, exec_of_runs hruns h⟩
    · rw [exec_of_not_runs hruns h]
      exact .inl rfl

/-- A property of states that neither the queue of words nor the response decides, and that every body of a well-formed
command keeps, is kept by every step. -/
theorem step_keeps {P : State → Prop} (hcongr : ∀ s w r, P s → P { s with cmds := w, resp := r })
    (hbody : ∀ s i, i.wellFormed = true → Runs s i → P s → P (bodyOf s i)) (hs : P s) (h : step s = .next t) : P t := by
  obtain ht | ⟨i, w, hdecode, hruns, ht⟩ := step_writes h
  · rw [ht]
    exact hcongr _ _ _ hs
  · have hwf : i.wellFormed = true := (encodesTo_of_decode hdecode).wellFormed
    rw [ht]
    exact hcongr _ (bodyOf s.taken i).cmds _ (hbody _ i hwf hruns (hcongr s s.cmds.tail s.resp hs))

end

/-! Single writers (10_state.md R36, R38, R41). -/

section
variable {s t u : State} {i : Instr}

/-- The registers of t that differ from those of s are among those the rules let the instruction write. -/
def WritesItsRegisters (i : Instr) (s t : State) : Prop :=
  ((∀ ign cp, i ≠ .cycle ign cp) →
    ((∀ ign cp, i ≠ .poll ign cp) → t.ignDb = s.ignDb ∧ t.ignCnt = s.ignCnt) ∧
    ((∀ ign cp, i ≠ .poll ign cp) → i ≠ .mdrain →
      t.mode = s.mode ∧ t.radioEn = s.radioEn ∧
      (∀ p, i ≠ .balc p → t.mask p = s.mask p) ∧
      ∀ p, (∀ v, i ≠ .seten p v) → (t.pack p).enable = (s.pack p).enable) ∧
    ((∀ cp, i ≠ .mpost cp) → i ≠ .mdrain → t.mbox = s.mbox) ∧
    ∀ p, i ≠ .acq p →
      (t.pack p).diag = (s.pack p).diag ∧
      ((∀ j x, i ≠ .push p j x) → (t.pack p).buf = (s.pack p).buf) ∧
      ((∀ x, i ≠ .pusht p x) → t.tot p = s.tot p)) ∧
  (i ≠ .halt → t.halted = s.halted) ∧ t.cfg = s.cfg ∧ t.cmds = s.cmds

theorem WritesItsRegisters.respond (h : WritesItsRegisters i s u) (ht : OnlyResponds u t) : WritesItsRegisters i s t := by
  rw [ht]
  exact h

/-- The registers outside the packs are the same, but for a mailbox that MPOST or MDRAIN writes and HALT's flag. -/
structure SameOutsidePacks (i : Instr) (s t : State) : Prop where
  mode : t.mode = s.mode
  radioEn : t.radioEn = s.radioEn
  ignDb : t.ignDb = s.ignDb
  ignCnt : t.ignCnt = s.ignCnt
  mbox : (∀ cp, i ≠ .mpost cp) → i ≠ .mdrain → t.mbox = s.mbox
  halted : i ≠ .halt → t.halted = s.halted
  cfg : t.cfg = s.cfg
  cmds : t.cmds = s.cmds

/-- An instruction that writes one pack at most: it is left to say who writes which register of that pack. -/
theorem SameOutsidePacks.writesItsRegisters (h : SameOutsidePacks i s t) {p : Pack}
    (hother : ∀ q, q ≠ p → t.pack q = s.pack q)
    (hmask : i ≠ .balc p → (t.pack p).mask = (s.pack p).mask)
    (henable : (∀ v, i ≠ .seten p v) → (t.pack p).enable = (s.pack p).enable)
    (hread : i ≠ .acq p → (t.pack p).diag = (s.pack p).diag ∧
      ((∀ j x, i ≠ .push p j x) → (t.pack p).buf = (s.pack p).buf) ∧
      ((∀ x, i ≠ .pusht p x) → (t.pack p).tot = (s.pack p).tot)) : WritesItsRegisters i s t := by
  have hpack {P : Pack → Prop} (hp : P p) (hq : ∀ q, t.pack q = s.pack q → P q) (q : Pack) : P q := by
    by_cases heq : q = p
    · rwa [heq]
    · exact hq q (hother q heq)
  refine ⟨fun _ => ⟨fun _ => ⟨h.ignDb, h.ignCnt⟩, fun _ _ => ⟨h.mode, h.radioEn, ?_, ?_⟩, h.mbox, ?_⟩, h.halted,
    h.cfg, h.cmds⟩
  · exact hpack hmask fun q hq _ => congrArg PackState.mask hq
  · exact hpack henable fun q hq _ => congrArg PackState.enable hq
  · exact hpack hread fun q hq _ => ⟨congrArg PackState.diag hq, fun _ => congrArg PackState.buf hq,
      fun _ => congrArg PackState.tot hq⟩

/-- An instruction that writes no register at all. -/
theorem SameOutsidePacks.writesNothing (h : SameOutsidePacks i s t) (hpack : ∀ p, t.pack p = s.pack p) :
    WritesItsRegisters i s t :=
  h.writesItsRegisters (p := .p0) (fun q _ => hpack q) (fun _ => congrArg PackState.mask (hpack _))
    (fun _ => congrArg PackState.enable (hpack _)) fun _ => ⟨congrArg PackState.diag (hpack _),
      fun _ => congrArg PackState.buf (hpack _), fun _ => congrArg PackState.tot (hpack _)⟩

theorem sameOutsidePacks_refl : SameOutsidePacks i s s := ⟨rfl, rfl, rfl, rfl, fun _ _ => rfl, fun _ => rfl, rfl, rfl⟩

theorem sameOutsidePacks_frame (p : Pack) (t0 t1 t2 : Byte) : SameOutsidePacks i s (s.frame p t0 t1 t2) :=
  ⟨rfl, rfl, rfl, rfl, fun _ _ => rfl, fun _ => rfl, rfl, rfl⟩

theorem sameOutsidePacks_setPack (p : Pack) (x : PackState) : SameOutsidePacks i s (s.setPack p x) := by
  cases p <;> exact ⟨rfl, rfl, rfl, rfl, fun _ _ => rfl, fun _ => rfl, rfl, rfl⟩

theorem sameOutsidePacks_setLine (p : Pack) (v : Bool) : SameOutsidePacks i s (s.setLine p v) := by
  cases p <;> exact ⟨rfl, rfl, rfl, rfl, fun _ _ => rfl, fun _ => rfl, rfl, rfl⟩

theorem sameOutsidePacks_acquire (p : Pack) : SameOutsidePacks i s (s.acquire p) := by
  obtain ⟨hmode, hradio, hdb, hcnt, hmbox, hhalted, -, hcfg, hcmds, -⟩ := s.acquire_sameButPack p
  exact ⟨hmode, hradio, hdb, hcnt, fun _ _ => hmbox, fun _ => hhalted, hcfg, hcmds⟩

/-! The queue of words, which no command takes from (R21). -/

@[simp] theorem trans_cmds (ign cp : Bool) : (s.trans ign cp).cmds = s.cmds := by
  obtain ⟨-, -, -, -, -, -, hcmds, -⟩ := s.trans_frame ign cp
  exact hcmds

@[simp] theorem drainMailbox_cmds : s.drainMailbox.cmds = s.cmds := by
  obtain ⟨-, hs⟩ | ⟨v, -, hs⟩ := s.drainMailbox_cases <;> rw [hs]
  exact trans_cmds s.ignDb v

@[simp] theorem acquire_cmds (p : Pack) : (s.acquire p).cmds = s.cmds :=
  (sameOutsidePacks_acquire (i := .acq p) p).cmds

@[simp] theorem cycleAcquire_cmds : s.cycleAcquire.cmds = s.cmds := by
  unfold State.cycleAcquire
  split <;> simp

@[simp] theorem cycleActions_cmds : s.cycleActions.cmds = s.cmds := by
  unfold State.cycleActions
  split <;> rfl

/-- The registers a mailbox or a transition does not touch: an instruction that may write all the others. -/
theorem writesItsRegisters_of_trans {ign cp : Bool} (hread : ∀ p, (u.pack p).diag = (s.pack p).diag ∧
      (u.pack p).buf = (s.pack p).buf ∧ u.tot p = s.tot p)
    (hdebouncer : (∀ ign cp, i ≠ .poll ign cp) → u.ignDb = s.ignDb ∧ u.ignCnt = s.ignCnt)
    (hmbox : i ≠ .mdrain → u.mbox = s.mbox) (hi : (∃ ign cp, i = .poll ign cp) ∨ i = .mdrain)
    (hhalted : u.halted = s.halted) (hcfg : u.cfg = s.cfg) (hcmds : u.cmds = s.cmds) :
    WritesItsRegisters i s (u.trans ign cp) := by
  obtain ⟨tdb, tcnt, tmbox, thalted, -, tcfg, tcmds, -, tpack⟩ := u.trans_frame ign cp
  refine ⟨fun _ => ⟨fun hpoll => ?_, fun hpoll hdrain => ?_, fun _ hdrain => tmbox.trans (hmbox hdrain), fun p _ => ?_⟩,
    fun _ => thalted.trans hhalted, tcfg.trans hcfg, tcmds.trans hcmds⟩
  · exact ⟨tdb.trans (hdebouncer hpoll).1, tcnt.trans (hdebouncer hpoll).2⟩
  · obtain ⟨ign, cp, rfl⟩ | rfl := hi
    · exact absurd rfl (hpoll ign cp)
    · exact absurd rfl hdrain
  · obtain ⟨tbuf, ttot, tdiag⟩ := tpack p
    obtain ⟨hdiag, hbuf, htot⟩ := hread p
    exact ⟨tdiag.trans hdiag, fun _ => tbuf.trans hbuf, fun _ => ttot.trans htot⟩

/-- Each body writes the registers of its instruction only. -/
theorem writesItsRegisters_bodyOf (i : Instr) : WritesItsRegisters i s (bodyOf s i) := by
  cases i with
  | xfer3 | balw | afeSample | afeSelect | afeBalset | afeSleep | afeWake =>
    exact (sameOutsidePacks_frame _ _ _ _).writesNothing (s.frame_pack _ _ _ _)
  | avg | avgt | ovq | uvq | balq | otq | statq | fltq | diagq | modeq | maskq =>
    exact sameOutsidePacks_refl.writesNothing fun _ => rfl
  | seten p v =>
    refine (sameOutsidePacks_setLine p v).writesItsRegisters (fun q => s.setLine_pack_other p v) ?_ ?_ ?_
    all_goals simp
  | acq p =>
    obtain ⟨-, -, -, -, -, -, -, -, -, hother, hmask, henable, -⟩ := s.acquire_sameButPack p
    exact (sameOutsidePacks_acquire p).writesItsRegisters hother (fun _ => hmask) (fun _ => henable)
      fun hacq => absurd rfl hacq
  | push p j code =>
    refine (sameOutsidePacks_setPack p _).writesItsRegisters (fun q => s.pushCell_pack_other p j code) ?_ ?_ ?_
    all_goals simp
  | pusht p tot =>
    refine (sameOutsidePacks_setPack p _).writesItsRegisters (fun q => s.pushTot_pack_other p tot) ?_ ?_ ?_
    all_goals simp
  | balc p =>
    refine (sameOutsidePacks_setPack p _).writesItsRegisters (fun q => s.setMask_pack_other p _) ?_ ?_ ?_
    all_goals simp
  | poll ign cp =>
    exact writesItsRegisters_of_trans (by simp [State.tot_eq]) (fun hpoll => absurd rfl (hpoll ign cp)) (by simp)
      (.inl ⟨ign, cp, rfl⟩) (by simp) (by simp) (by simp)
  | mdrain =>
    obtain ⟨-, hs⟩ | ⟨v, -, hs⟩ := s.drainMailbox_cases
    · rw [bodyOf, hs]
      exact sameOutsidePacks_refl.writesNothing fun _ => rfl
    · rw [bodyOf, hs]
      exact writesItsRegisters_of_trans (fun p => by cases p <;> exact ⟨rfl, rfl, rfl⟩) (fun _ => ⟨rfl, rfl⟩)
        (fun hdrain => absurd rfl hdrain) (.inr rfl) rfl rfl rfl
  | mpost cp =>
    rw [bodyOf]
    split
    · exact SameOutsidePacks.writesNothing ⟨rfl, rfl, rfl, rfl, fun hpost => absurd rfl (hpost cp), fun _ => rfl, rfl, rfl⟩
        fun p => by cases p <;> rfl
    · exact sameOutsidePacks_refl.writesNothing fun _ => rfl
  | cycle ign cp =>
    exact ⟨fun hcycle => absurd rfl (hcycle ign cp), fun _ => by simp [bodyOf, State.cycleBody, State.pollInputs],
      cycleBody_cfg ign cp, by simp [bodyOf, State.cycleBody, State.pollInputs]⟩
  | halt =>
    exact SameOutsidePacks.writesNothing ⟨rfl, rfl, rfl, rfl, fun _ _ => rfl, fun hhalt => absurd rfl hhalt, rfl, rfl⟩
      s.enterHalt_pack

end

/-- Settles O58: refused, an instruction writes the response only; else the registers its body writes are its own. -/
theorem singleWriterPerRegister : Obligations.SingleWriterPerRegister := by
  intro i s t h
  change WritesItsRegisters i s t
  by_cases hruns : Runs s i
  · exact (writesItsRegisters_bodyOf i).respond (exec_of_runs hruns h)
  · exact (sameOutsidePacks_refl.writesNothing fun _ => rfl).respond (exec_of_not_runs hruns h)

/-- Settles O9: a halted block writes its queue and response only; the reset state is not halted. -/
theorem onlyResetClearsTheHalt : Obligations.OnlyResetClearsTheHalt := by
  refine ⟨fun s t hhalted h => ?_, fun s => ⟨rfl, rfl, rfl⟩⟩
  rw [step_halted_writes_cmds_resp hhalted h]
  exact hhalted

end Sys2Proof.Proofs

/-! PROOFS. The block's invariant (10_state.md R23 to R30; 70_reset_and_hazards.md R275): every write of a pack's registers
keeps the pack sound, the sum of an acquisition's codes is a 20-bit total, and the debounce counter stays below its bound. -/

namespace Sys2Proof.Proofs

open Sys2Proof
open Sys2Proof.Machine

/-! One pack (R23 to R26). -/

section
variable {c : Config} {q : PackState}

theorem wf_initial : (PackState.initial c).wf c := by
  refine ⟨List.length_replicate, fun b hb => ?_, wf_empty (by decide) (by decide), fun j _ _ => BitVec.getLsbD_zero⟩
  rw [List.eq_of_mem_replicate hb]
  exact wf_empty (by decide) (by decide)

theorem wf_set_buf (h : q.wf c) (j : Nat) {b : Ring} (hb : b.cellWf) : ({ q with buf := q.buf.set j b } : PackState).wf c := by
  obtain ⟨hlen, hcells, htot, hmask⟩ := h
  refine ⟨(List.length_set ..).trans hlen, fun x hx => ?_, htot, hmask⟩
  obtain hold | rfl := List.mem_or_eq_of_mem_set hx
  · exact hcells x hold
  · exact hb

theorem wf_set_tot (h : q.wf c) {b : Ring} (hb : b.totWf) : ({ q with tot := b } : PackState).wf c := by
  obtain ⟨hlen, hcells, -, hmask⟩ := h
  exact ⟨hlen, hcells, hb, hmask⟩

theorem wf_set_mask (h : q.wf c) {m : Mask} (hm : ∀ j, j < 16 → c.numCells ≤ j → m.getLsbD (15 - j) = false) :
    ({ q with mask := m } : PackState).wf c := by
  obtain ⟨hlen, hcells, htot, -⟩ := h
  exact ⟨hlen, hcells, htot, hm⟩

theorem wf_set_flags (h : q.wf c) (e d : Bool) : ({ q with enable := e, diag := d } : PackState).wf c := h

end

/-! Both packs. -/

section
variable {s t : State}

/-- Both packs are sound. -/
def PacksWf (s : State) : Prop := ∀ p, (s.pack p).wf s.cfg

namespace PacksWf

theorem congr (h : PacksWf s) (hcfg : t.cfg = s.cfg) (hpack : ∀ p, t.pack p = s.pack p) : PacksWf t := by
  intro p
  rw [hcfg, hpack]
  exact h p

theorem setPack (h : PacksWf s) (p : Pack) {x : PackState} (hx : x.wf s.cfg) : PacksWf (s.setPack p x) := by
  intro q
  rw [State.setPack_cfg, State.setPack_pack]
  split
  · exact hx
  · exact h q

/-- Every cell buffer is sound; the accessor reads an empty one beyond the pack's (log 8). -/
theorem cellWf (h : PacksWf s) (p : Pack) (j : Nat) : (s.cell p j).cellWf := by
  obtain ⟨-, hcells, -, -⟩ := h p
  rw [State.cell_eq, List.getD_eq_getElem?_getD]
  cases hj : (s.pack p).buf[j]? with
  | none => exact wf_empty (by decide) (by decide)
  | some b => exact hcells b (List.mem_of_getElem? hj)

theorem totWf (h : PacksWf s) (p : Pack) : (s.tot p).totWf := by
  obtain ⟨-, -, htot, -⟩ := h p
  exact htot

theorem pushCell (h : PacksWf s) (p : Pack) (j : Nat) {x : Int} (hlo : -32768 ≤ x) (hhi : x ≤ 32767) :
    PacksWf (s.pushCell p j x) :=
  h.setPack p (wf_set_buf (h p) j (wf_push (h.cellWf p j) hlo hhi))

theorem pushTot (h : PacksWf s) (p : Pack) {x : Int} (hlo : -524288 ≤ x) (hhi : x ≤ 524287) : PacksWf (s.pushTot p x) :=
  h.setPack p (wf_set_tot (h p) (wf_push (h.totWf p) hlo hhi))

theorem setDiag (h : PacksWf s) (p : Pack) (d : Bool) : PacksWf (s.setDiag p d) :=
  h.setPack p (wf_set_flags (h p) _ d)

theorem setLine (h : PacksWf s) (p : Pack) (v : Bool) : PacksWf (s.setLine p v) :=
  (h.setPack p (wf_set_flags (h p) v _)).congr rfl fun q => State.emit_pack _ _ q

/-- BALC builds no bit of a missing cell (R180). -/
theorem rebuildMask (h : PacksWf s) (hlegal : s.cfg.legal) (p : Pack) : PacksWf (s.rebuildMask p) := by
  refine h.setPack p (wf_set_mask (h p) fun j hj hmissing => ?_)
  rw [← Bool.not_eq_true, getLsbD_dischargeMask hlegal p hj]
  rintro ⟨hexists, -⟩
  omega

/-- A transition clears the masks or leaves them, and drives the enable lines (R194, R195). -/
theorem trans (h : PacksWf s) (ign cp : Bool) : PacksWf (s.trans ign cp) := by
  obtain hstay | ⟨-, m, -, hwake⟩ | ⟨-, hsleep⟩ := s.trans_cases ign cp
  · rw [hstay]
    exact h
  · intro p
    rw [hwake, State.wake_pack, State.setMode_pack]
    exact wf_set_flags (wf_set_mask (h p) fun _ _ _ => BitVec.getLsbD_zero) true _
  · intro p
    rw [hsleep, State.sleep_pack, State.setMode_pack]
    exact wf_set_flags (h p) false _

theorem pollInputs (h : PacksWf s) (ign cp : Bool) : PacksWf (s.pollInputs ign cp) :=
  (h.congr (s.debounce_cfg ign) (s.debounce_pack ign)).trans _ cp

theorem drainMailbox (h : PacksWf s) : PacksWf s.drainMailbox := by
  obtain ⟨-, hs⟩ | ⟨v, -, hs⟩ := s.drainMailbox_cases <;> rw [hs]
  · exact h
  · exact (h.congr (t := { s with mbox := none }) rfl fun p => by cases p <;> rfl).trans s.ignDb v

end PacksWf

/-! The acquisition (R120, R124, R127). -/

/-- Every code the ADC answers is within ADC_MIN and ADC_MAX (R12). -/
theorem clampCode_bounds {c : Config} (h : c.adcMin ≤ c.adcMax) (x : Int) :
    c.adcMin ≤ clampCode c x ∧ clampCode c x ≤ c.adcMax :=
  ⟨le_max_left _ _, max_le h (min_le_left _ _)⟩

theorem nextCode_bounds (hlegal : s.cfg.legal) : -32768 ≤ s.nextCode ∧ s.nextCode ≤ 32767 := by
  obtain ⟨-, -, -, -, -, -, hmin, hle, hmax, -⟩ := hlegal
  obtain ⟨hlo, hhi⟩ : s.cfg.adcMin ≤ s.nextCode ∧ s.nextCode ≤ s.cfg.adcMax := clampCode_bounds hle _
  exact ⟨hmin.trans hlo, hhi.trans hmax⟩

/-- An acquisition under way, k cells read: the packs are sound, and the total is a sum of k 16-bit codes. -/
structure AcqSound (a : AcqProgress) (k : Nat) : Prop where
  packs : PacksWf a.st
  le_total : -32768 * (k : Int) ≤ a.total
  total_le : a.total ≤ 32767 * (k : Int)

theorem AcqSound.acqCell {a : AcqProgress} {k : Nat} (h : AcqSound a k) (hlegal : a.st.cfg.legal) (p : Pack) (m : Mask)
    (j : Nat) : AcqSound (acqCell p m a j) (k + 1) := by
  have hcode := nextCode_bounds (s := (a.st.sendMask p m (a.st.cfg.selectByte j)).delay .muxSettle) hlegal
  obtain ⟨hlo, hhi⟩ := hcode
  have hle := h.le_total
  have hge := h.total_le
  have hread : PacksWf (((a.st.sendMask p m (a.st.cfg.selectByte j)).delay .muxSettle).adcRead (a.st.cfg.adcChannel p)) :=
    h.packs.congr rfl (by simp)
  exact ⟨hread.pushCell p j hlo hhi, by simp only [Machine.acqCell]; push_cast; omega,
    by simp only [Machine.acqCell]; push_cast; omega⟩

theorem AcqSound.acqCells {a : AcqProgress} {k : Nat} (h : AcqSound a k) (hlegal : a.st.cfg.legal) (p : Pack) (m : Mask)
    (js : List Nat) : AcqSound (js.foldl (Machine.acqCell p m) a) (k + js.length) := by
  induction js generalizing a k with
  | nil => exact h
  | cons j js ih =>
    rw [List.foldl_cons, List.length_cons, Nat.add_comm js.length, ← Nat.add_assoc]
    exact ih (h.acqCell hlegal p m j) (by rwa [acqCell_cfg])

/-- At most 16 codes of 16 bits add up to 20 bits. -/
theorem AcqSound.acqFinish {a : AcqProgress} {k : Nat} (h : AcqSound a k) (hk : k ≤ 16) (p : Pack) (m : Mask) :
    PacksWf (acqFinish p m a) := by
  have hle := h.le_total
  have hge := h.total_le
  have hrestored : PacksWf (a.st.sendMask p m a.st.cfg.ctrlSample) := h.packs.congr rfl (by simp)
  have hsummed : PacksWf (if (a.st.sendMask p m a.st.cfg.ctrlSample).cfg.totalSource = .cellSum
      then (a.st.sendMask p m a.st.cfg.ctrlSample).pushTot p a.total
      else a.st.sendMask p m a.st.cfg.ctrlSample) := by
    split
    · exact hrestored.pushTot p (by omega) (by omega)
    · exact hrestored
  have hflagged := hsummed.setDiag p a.diag
  unfold Machine.acqFinish
  dsimp only
  split
  · exact hflagged.congr rfl (State.emit_pack _ _)
  · exact hflagged

theorem PacksWf.acquire (h : PacksWf s) (hlegal : s.cfg.legal) (p : Pack) : PacksWf (s.acquire p) := by
  have ⟨_, hcells, _⟩ := hlegal
  have hsample : AcqSound (acqSample s p (s.mask p)) 0 :=
    ⟨h.congr rfl (by simp [acqSample]), by simp [acqSample], by simp [acqSample]⟩
  refine (hsample.acqCells hlegal p (s.mask p) (cellsDown s.cfg.numCells)).acqFinish ?_ p (s.mask p)
  rw [length_cellsDown, Nat.zero_add]
  exact hcells

/-! The cycle, and every body. -/

theorem PacksWf.cycleAcquire (h : PacksWf s) (hlegal : s.cfg.legal) : PacksWf s.cycleAcquire := by
  unfold State.cycleAcquire
  split
  · exact h
  all_goals exact (h.acquire hlegal .p0).acquire (by rwa [acquire_cfg]) .p1

theorem PacksWf.balancePack (h : PacksWf s) (hlegal : s.cfg.legal) (p : Pack) : PacksWf (s.balancePack p) :=
  (h.rebuildMask hlegal p).congr rfl (State.sendMask_pack _ _ _ _)

theorem PacksWf.cycleActions (h : PacksWf s) (hlegal : s.cfg.legal) : PacksWf s.cycleActions := by
  unfold State.cycleActions
  split
  · exact h
  · exact h.congr rfl (State.emit_pack _ _)
  · exact ((h.balancePack hlegal .p0).balancePack (by rwa [balancePack_cfg]) .p1).congr rfl (State.emit_pack _ _)

theorem PacksWf.cycleBody (h : PacksWf s) (hlegal : s.cfg.legal) (ign cp : Bool) : PacksWf (s.cycleBody ign cp) := by
  have hdrained := h.drainMailbox
  have hacquired := hdrained.cycleAcquire (by rwa [drainMailbox_cfg])
  have hacted := hacquired.cycleActions (by rwa [cycleAcquire_cfg, drainMailbox_cfg])
  exact hacted.pollInputs ign cp

/-- Every body of a well-formed command keeps the packs sound; a code or a total that the host pushes fits its field. -/
theorem PacksWf.bodyOf (h : PacksWf s) (hlegal : s.cfg.legal) {i : Instr} (hwf : i.wellFormed = true) :
    PacksWf (bodyOf s i) := by
  cases i with
  | xfer3 | balw | afeSample | afeSelect | afeBalset | afeSleep | afeWake =>
    exact h.congr rfl (State.frame_pack _ _ _ _ _)
  | seten p v => exact h.setLine p v
  | acq p => exact h.acquire hlegal p
  | push p j code =>
    simp only [Instr.wellFormed, Bool.and_eq_true, decide_eq_true_eq] at hwf
    obtain ⟨⟨-, hlo⟩, hhi⟩ := hwf
    exact h.pushCell p j hlo hhi
  | pusht p tot =>
    simp only [Instr.wellFormed, Bool.and_eq_true, decide_eq_true_eq] at hwf
    exact h.pushTot p hwf.1 hwf.2
  | balc p => exact h.rebuildMask hlegal p
  | poll ign cp => exact h.pollInputs ign cp
  | mpost cp =>
    rw [Proofs.bodyOf]
    split
    · exact h.congr rfl fun p => by cases p <;> rfl
    · exact h
  | mdrain => exact h.drainMailbox
  | cycle ign cp => exact h.cycleBody hlegal ign cp
  | halt => exact h.congr rfl s.enterHalt_pack
  | avg | avgt | ovq | uvq | balq | otq | statq | fltq | diagq | modeq | maskq => exact h

/-! The debounce counter (R30, R190). -/

/-- The counter is below its bound. -/
def CounterBelow (s : State) : Prop := s.ignCnt < s.cfg.ignDebounceN

theorem CounterBelow.congr (h : CounterBelow s) (hcnt : t.ignCnt = s.ignCnt) (hcfg : t.cfg = s.cfg) : CounterBelow t := by
  rw [CounterBelow, hcnt, hcfg]
  exact h

theorem counterBelow_debounce (hN : 1 ≤ s.cfg.ignDebounceN) (x : Bool) : CounterBelow (s.debounce x) := by
  rw [CounterBelow, State.debounce_cfg]
  obtain ⟨-, hs⟩ | ⟨-, -, hs⟩ | ⟨-, hcnt, hs⟩ := s.debounce_cases x <;> rw [hs]
  · exact hN
  · exact hN
  · exact hcnt

theorem CounterBelow.trans (h : CounterBelow s) (ign cp : Bool) : CounterBelow (s.trans ign cp) := by
  obtain ⟨-, hcnt, -, -, -, hcfg, -⟩ := s.trans_frame ign cp
  exact h.congr hcnt hcfg

theorem counterBelow_pollInputs (hN : 1 ≤ s.cfg.ignDebounceN) (ign cp : Bool) : CounterBelow (s.pollInputs ign cp) :=
  (counterBelow_debounce hN ign).trans _ cp

/-- POLL and CYCLE end with a debounced sample; the other instructions leave the counter as it is (R41). -/
theorem CounterBelow.bodyOf (h : CounterBelow s) (hN : 1 ≤ s.cfg.ignDebounceN) (i : Instr) : CounterBelow (bodyOf s i) := by
  by_cases hdebounces : (∃ ign cp, i = .poll ign cp) ∨ ∃ ign cp, i = .cycle ign cp
  · obtain ⟨ign, cp, rfl⟩ | ⟨ign, cp, rfl⟩ := hdebounces
    · exact counterBelow_pollInputs hN ign cp
    · exact counterBelow_pollInputs (by simpa using hN) ign cp
  · obtain ⟨hregisters, -, hcfg, -⟩ := writesItsRegisters_bodyOf (s := s) i
    obtain ⟨hdebouncer, -⟩ := hregisters fun ign cp hi => hdebounces (.inr ⟨ign, cp, hi⟩)
    obtain ⟨-, hcnt⟩ := hdebouncer fun ign cp hi => hdebounces (.inl ⟨ign, cp, hi⟩)
    exact h.congr hcnt hcfg

/-! The invariant whole. -/

theorem inv_iff : s.inv ↔ s.cfg.legal ∧ PacksWf s ∧ CounterBelow s ∧ MasksZeroInDriving s := by
  have hpacks : PacksWf s ↔ s.pack0.wf s.cfg ∧ s.pack1.wf s.cfg :=
    ⟨fun h => ⟨h .p0, h .p1⟩, fun ⟨h0, h1⟩ p => by cases p; exacts [h0, h1]⟩
  have hmasks : MasksZeroInDriving s ↔ (s.mode = .driving → s.pack0.mask = 0 ∧ s.pack1.mask = 0) :=
    forall_congr' fun _ => ⟨fun h => ⟨h .p0, h .p1⟩, fun ⟨h0, h1⟩ p => by cases p; exacts [h0, h1]⟩
  rw [hpacks, hmasks]
  exact ⟨fun ⟨hlegal, h0, h1, hcnt, hzero⟩ => ⟨hlegal, ⟨h0, h1⟩, hcnt, hzero⟩,
    fun ⟨hlegal, ⟨h0, h1⟩, hcnt, hzero⟩ => ⟨hlegal, h0, h1, hcnt, hzero⟩⟩

/-- The parameters stay legal, so every step keeps the packs sound and the counter below its bound. -/
theorem inv_step (hs : s.inv) (h : step s = .next t) : t.inv := by
  obtain ⟨hlegal, hpacks, hcounter, hmasks⟩ := inv_iff.mp hs
  have hkept : t.cfg.legal ∧ PacksWf t ∧ CounterBelow t := by
    refine step_keeps (P := fun u => u.cfg.legal ∧ PacksWf u ∧ CounterBelow u) (fun u w r hu => ?_)
      (fun u i hwf _ hu => ?_) ⟨hlegal, hpacks, hcounter⟩ h
    · obtain ⟨ulegal, upacks, ucounter⟩ := hu
      exact ⟨ulegal, upacks.congr rfl fun p => by cases p <;> rfl, ucounter⟩
    · obtain ⟨ulegal, upacks, ucounter⟩ := hu
      obtain ⟨-, -, hcfg, -⟩ := writesItsRegisters_bodyOf (s := u) i
      have ⟨_, _, _, _, _, _, _, _, _, _, hN, _⟩ := ulegal
      exact ⟨by rwa [hcfg], upacks.bodyOf ulegal hwf, ucounter.bodyOf hN i⟩
  obtain ⟨tlegal, tpacks, tcounter⟩ := hkept
  exact inv_iff.mpr ⟨tlegal, tpacks, tcounter, hmasks.of_step h⟩

theorem inv_resetWith {c : Config} (hlegal : c.legal) : (State.resetWith c).inv := by
  have ⟨_, _, _, _, _, _, _, _, _, _, hN, _⟩ := hlegal
  refine inv_iff.mpr ⟨hlegal, fun p => ?_, hN, fun _ p => resetWith_mask p⟩
  rw [resetWith_pack]
  exact wf_initial

end

/-- Settles O53: `inv_resetWith` for any legal parameters, of which the default ones are one choice. -/
theorem invariantHoldsAtReset : Obligations.InvariantHoldsAtReset :=
  ⟨fun _ hlegal => inv_resetWith hlegal, rfl, inv_resetWith default_legal⟩

/-- Settles O54: the step lemma `inv_step`. -/
theorem invariantKeptByEveryStep : Obligations.InvariantKeptByEveryStep :=
  fun _ _ hs h => inv_step hs h

end Sys2Proof.Proofs

/-! PROOFS. New mask bits (45_balance.md R183): only rebuilding a mask sets bits, each of a cell that meets OV's comparison, and
what a command does after it writes no cell buffer and sets no bit. -/

namespace Sys2Proof.Proofs

open Sys2Proof
open Sys2Proof.Machine

section
variable {s t u : State}

/-- Every mask bit of t is one of s. -/
def MasksWithin (s t : State) : Prop := ∀ p k, (t.mask p).getLsbD k = true → (s.mask p).getLsbD k = true

/-- Every mask bit of t is one of s, or one of an existing cell whose mean in t is at least V_UP. -/
def NewBitsHigh (s t : State) : Prop :=
  ∀ p j, j < 16 → (t.mask p).getLsbD (15 - j) = true →
    (s.mask p).getLsbD (15 - j) = true ∨ (j < t.cfg.numCells ∧ (t.cell p j).isOver t.cfg)

theorem masksWithin_of_eq (h : ∀ p, t.mask p = s.mask p) : MasksWithin s t := by
  intro p k hbit
  rwa [← h p]

theorem MasksWithin.newBitsHigh (h : MasksWithin s t) : NewBitsHigh s t := fun p j _ hbit => .inl (h p (15 - j) hbit)

/-- What is done before may write the cells. -/
theorem MasksWithin.trans_newBitsHigh (h : MasksWithin s u) (h' : NewBitsHigh u t) : NewBitsHigh s t :=
  fun p j hj hbit => (h' p j hj hbit).imp_left (h p (15 - j))

/-- What is done after must leave the cells, for whose means the bits stand. -/
theorem NewBitsHigh.trans (h : NewBitsHigh s u) (h' : NewBitsHigh u t) (hcfg : t.cfg = u.cfg)
    (hcell : ∀ p j, t.cell p j = u.cell p j) : NewBitsHigh s t := by
  intro p j hj hbit
  obtain hold | hnew := h' p j hj hbit
  · rw [hcfg, hcell]
    exact h p j hj hold
  · exact .inr hnew

/-! The writers of masks (R180, R194, R195). -/

theorem masksWithin_trans (ign cp : Bool) : MasksWithin s (s.trans ign cp) := by
  obtain hstay | ⟨-, m, -, hwake⟩ | ⟨-, hsleep⟩ := s.trans_cases ign cp
  · exact masksWithin_of_eq fun p => by rw [hstay]
  · intro p k hbit
    rw [hwake, State.mask_eq, State.wake_pack] at hbit
    simp at hbit
  · exact masksWithin_of_eq fun p => by rw [hsleep, State.mask_eq, State.sleep_pack, State.setMode_pack]; rfl

theorem masksWithin_drainMailbox : MasksWithin s s.drainMailbox := by
  obtain ⟨-, hs⟩ | ⟨v, -, hs⟩ := s.drainMailbox_cases <;> rw [hs]
  · exact masksWithin_of_eq fun _ => rfl
  · intro p k hbit
    have hemptied := masksWithin_trans (s := { s with mbox := none }) s.ignDb v p k hbit
    cases p <;> exact hemptied

theorem masksWithin_pollInputs (ign cp : Bool) : MasksWithin s (s.pollInputs ign cp) := by
  intro p k hbit
  have hdebounced := masksWithin_trans (s := s.debounce ign) _ cp p k hbit
  rwa [State.mask_eq, State.debounce_pack] at hdebounced

theorem newBitsHigh_rebuildMask (hlegal : s.cfg.legal) (p : Pack) : NewBitsHigh s (s.rebuildMask p) := by
  intro q j hj hbit
  by_cases h : q = p
  · subst h
    rw [rebuildMask_mask_same, getLsbD_dischargeMask hlegal q hj] at hbit
    rw [rebuildMask_cell, rebuildMask_cfg]
    exact .inr hbit
  · rw [rebuildMask_mask_other h] at hbit
    exact .inl hbit

theorem newBitsHigh_balancePack (hlegal : s.cfg.legal) (p : Pack) : NewBitsHigh s (s.balancePack p) :=
  (newBitsHigh_rebuildMask hlegal p).trans (masksWithin_of_eq (State.sendMask_mask _ _ _ _)).newBitsHigh rfl
    (State.sendMask_cell _ _ _ _)

@[simp] theorem balancePack_cell (p q : Pack) (j : Nat) : (s.balancePack p).cell q j = s.cell q j :=
  rebuildMask_cell p q j

theorem newBitsHigh_cycleActions (hlegal : s.cfg.legal) : NewBitsHigh s s.cycleActions := by
  cases hmode : s.mode with
  | standby =>
    rw [cycleActions_standby hmode]
    exact (masksWithin_of_eq fun _ => rfl).newBitsHigh
  | driving =>
    rw [cycleActions_driving hmode]
    exact (masksWithin_of_eq (State.emit_mask _ _)).newBitsHigh
  | charging =>
    rw [cycleActions_charging hmode]
    have hboth : NewBitsHigh s ((s.balancePack .p0).balancePack .p1) :=
      (newBitsHigh_balancePack hlegal .p0).trans (newBitsHigh_balancePack (by rwa [balancePack_cfg]) .p1)
        (balancePack_cfg .p1) (balancePack_cell .p1)
    exact hboth.trans (masksWithin_of_eq (State.emit_mask _ _)).newBitsHigh rfl (State.emit_cell _ _)

/-- The acquisitions write cells before the masks are rebuilt, and nothing after that does (R220). -/
theorem newBitsHigh_cycleBody (hlegal : s.cfg.legal) (ign cp : Bool) : NewBitsHigh s (s.cycleBody ign cp) := by
  have hacted := newBitsHigh_cycleActions (s := s.drainMailbox.cycleAcquire)
    (by rwa [cycleAcquire_cfg, drainMailbox_cfg])
  have hpolled : NewBitsHigh s.drainMailbox.cycleAcquire (s.cycleBody ign cp) :=
    hacted.trans (masksWithin_pollInputs ign cp).newBitsHigh (pollInputs_cfg ign cp) pollInputs_cell
  exact masksWithin_drainMailbox.trans_newBitsHigh ((masksWithin_of_eq cycleAcquire_mask).trans_newBitsHigh hpolled)

/-- The bodies that may write a mask, one by one; the others keep the masks (R41). -/
theorem newBitsHigh_bodyOf (hlegal : s.cfg.legal) (i : Instr) : NewBitsHigh s (bodyOf s i) := by
  have hwrites := writesItsRegisters_bodyOf (s := s) i
  cases i with
  | balc p => exact newBitsHigh_rebuildMask hlegal p
  | cycle ign cp => exact newBitsHigh_cycleBody hlegal ign cp
  | poll ign cp => exact (masksWithin_pollInputs ign cp).newBitsHigh
  | mdrain => exact masksWithin_drainMailbox.newBitsHigh
  | xfer3 | seten | acq | push | pusht | avg | avgt | ovq | uvq | balq | otq | statq | fltq | diagq | modeq | maskq
  | balw | mpost | halt | afeSample | afeSelect | afeBalset | afeSleep | afeWake =>
    obtain ⟨hregisters, -⟩ := hwrites
    obtain ⟨-, hmodes, -⟩ := hregisters (by simp)
    obtain ⟨-, -, hmask, -⟩ := hmodes (by simp) (by simp)
    exact (masksWithin_of_eq fun p => hmask p (by simp)).newBitsHigh

theorem newBitsHigh_step (hlegal : s.cfg.legal) (h : step s = .next t) : NewBitsHigh s t := by
  obtain ht | ⟨i, w, -, -, ht⟩ := step_writes h
  · rw [ht]
    exact (masksWithin_of_eq fun p => by cases p <;> rfl).newBitsHigh
  · have hresponded : NewBitsHigh (bodyOf s.taken i) t :=
      (masksWithin_of_eq fun p => by rw [ht]; cases p <;> rfl).newBitsHigh
    have hbody : NewBitsHigh s.taken t :=
      (newBitsHigh_bodyOf (s := s.taken) hlegal i).trans hresponded (by rw [ht]) fun p j => by rw [ht]; cases p <;> rfl
    exact (masksWithin_of_eq s.taken_mask).trans_newBitsHigh hbody

end

/-- Settles O56: the step lemma `newBitsHigh_step`. -/
theorem newMaskBitsHaveHighMeans : Obligations.NewMaskBitsHaveHighMeans :=
  fun _ _ hlegal h p j hj hbit => newBitsHigh_step hlegal h p j hj hbit

end Sys2Proof.Proofs

/-! PROOFS. What every body appends to the trace (10_state.md R37; 41_transport.md R105; 00_scope.md R12): some events, its
conversions within the ADC's range, and a number of frames that the AFE's answers do not decide and are answered one by one
with. -/

namespace Sys2Proof.Proofs

open Sys2Proof
open Sys2Proof.Machine

theorem frameResponses_append (es fs : List Event) : frameResponses (es ++ fs) = frameResponses es ++ frameResponses fs :=
  List.filterMap_append

section
variable {s t u : State} {n m : Nat} {es fs : List Event}

/-- A conversion the ADC oracle may make: on a pack's channel, with a code brought into the range (R12). -/
def IsConversion (c : Config) (ch : Nat) (code : Int) : Prop := (∃ p, ch = c.adcChannel p) ∧ ∃ x, code = clampCode c x

/-- From s to t the events es are appended, and the frames among them are answered with the next answers of the AFE. -/
structure Appends (s t : State) (es : List Event) : Prop where
  cfg : t.cfg = s.cfg
  trace : t.trace = s.trace ++ es
  conversion : ∀ ch code, Event.adc ch code ∈ es → IsConversion s.cfg ch code
  answered : ∀ rs rest, s.afeIn = rs ++ rest → rs.length = (frameResponses es).length →
    frameResponses es = rs.map packReply ∧ t.afeIn = rest

/-- From s to t events are appended, n of them frames. -/
def Sends (s t : State) (n : Nat) : Prop := ∃ es, Appends s t es ∧ (frameResponses es).length = n

theorem Appends.trans (h : Appends s u es) (h' : Appends u t fs) : Appends s t (es ++ fs) where
  cfg := h'.cfg.trans h.cfg
  trace := by rw [h'.trace, h.trace, List.append_assoc]
  conversion ch code hmem := (List.mem_append.mp hmem).elim (h.conversion ch code) fun hlater =>
    h.cfg ▸ h'.conversion ch code hlater
  answered rs rest hin hlen := by
    rw [frameResponses_append, List.length_append] at hlen
    obtain ⟨rs, qs, rfl, hrs, hqs⟩ : ∃ xs ys, rs = xs ++ ys ∧ xs.length = (frameResponses es).length ∧
        ys.length = (frameResponses fs).length :=
      ⟨rs.take (frameResponses es).length, rs.drop (frameResponses es).length, by simp, by simp [hlen], by simp [hlen]⟩
    rw [List.append_assoc] at hin
    obtain ⟨hfirst, hmiddle⟩ := h.answered rs (qs ++ rest) hin hrs
    obtain ⟨hsecond, hlast⟩ := h'.answered qs rest hmiddle hqs
    rw [frameResponses_append, hfirst, hsecond, List.map_append]
    exact ⟨rfl, hlast⟩

theorem Sends.trans (h : Sends s u n) (h' : Sends u t m) : Sends s t (n + m) := by
  obtain ⟨es, hes, rfl⟩ := h
  obtain ⟨fs, hfs, rfl⟩ := h'
  exact ⟨es ++ fs, hes.trans hfs, by rw [frameResponses_append, List.length_append]⟩

/-! The primitives (R12, R100). -/

/-- Events that are neither frames nor conversions, which take no answer. -/
theorem sends_other (hcfg : t.cfg = s.cfg) (htrace : t.trace = s.trace ++ es) (hafe : t.afeIn = s.afeIn)
    (hframes : frameResponses es = []) (hadc : ∀ ch code, Event.adc ch code ∉ es) : Sends s t 0 := by
  refine ⟨es, ⟨hcfg, htrace, fun ch code hmem => absurd hmem (hadc ch code), fun rs rest hin hlen => ?_⟩, by rw [hframes]; rfl⟩
  rw [hframes] at hlen ⊢
  obtain rfl : rs = [] := List.eq_nil_of_length_eq_zero hlen
  exact ⟨rfl, hafe.trans hin⟩

/-- Registers written without an event. -/
theorem sends_quiet (hcfg : t.cfg = s.cfg) (htrace : t.trace = s.trace) (hafe : t.afeIn = s.afeIn) : Sends s t 0 :=
  sends_other (es := []) hcfg (by rw [htrace, List.append_nil]) hafe rfl fun _ _ => List.not_mem_nil

theorem sends_refl : Sends s s 0 := sends_quiet rfl rfl rfl

/-- A response is no event. -/
theorem Sends.respond (h : Sends s u n) (ht : OnlyResponds u t) : Sends s t n := by
  have hresponded : Sends u t 0 := by
    rw [ht]
    exact sends_quiet rfl rfl rfl
  exact h.trans hresponded

theorem sends_emit {e : Event} (hframe : frameResponses [e] = []) (hadc : ∀ ch code, e ≠ .adc ch code) :
    Sends s (s.emit e) 0 :=
  sends_other (es := [e]) rfl rfl rfl hframe fun ch code hmem => hadc ch code (List.mem_singleton.mp hmem).symm

theorem sends_frame (p : Pack) (t0 t1 t2 : Byte) : Sends s (s.frame p t0 t1 t2) 1 := by
  refine ⟨[.frame p t0 t1 t2 s.nextRx], ⟨rfl, rfl, by simp, fun rs rest hin hlen => ?_⟩, rfl⟩
  obtain ⟨r, rfl⟩ := List.length_eq_one_iff.mp hlen
  have hrx : s.nextRx = packReply r := by simp [State.nextRx, State.nextReply, hin]
  exact ⟨congrArg (fun rx => [rx]) hrx, by rw [State.frame_afeIn, hin]; rfl⟩

theorem sends_sendMask (p : Pack) (k : Mask) (b : Byte) : Sends s (s.sendMask p k b) 1 := sends_frame p _ _ b

theorem sends_setLine (p : Pack) (v : Bool) : Sends s (s.setLine p v) 0 :=
  sends_other (s.setLine_cfg p v) (s.setLine_trace p v) (s.setLine_afeIn p v) rfl (by simp)

theorem sends_delay (k : DelayKind) : Sends s (s.delay k) 0 := sends_emit rfl (by simp)

theorem sends_radio (v : Bool) : Sends s (s.radio v) 0 := sends_other (es := [.radio v]) rfl rfl rfl rfl (by simp)

theorem sends_adcRead (p : Pack) : Sends s (s.adcRead (s.cfg.adcChannel p)) 0 := by
  refine ⟨[.adc (s.cfg.adcChannel p) s.nextCode], ⟨rfl, rfl, fun ch code hmem => ?_, fun rs rest hin hlen => ?_⟩, rfl⟩
  · obtain ⟨rfl, rfl⟩ : ch = s.cfg.adcChannel p ∧ code = s.nextCode := by simpa using hmem
    exact ⟨⟨p, rfl⟩, _, rfl⟩
  · obtain rfl : rs = [] := List.eq_nil_of_length_eq_zero hlen
    exact ⟨rfl, hin⟩

/-! The transitions (R193 to R195). -/

/-- The frames of a transition: one to each pack (R194, R195). -/
def transitionFrames : TransitionEffect → Nat
  | .stay => 0
  | .wakeTo _ => 2
  | .sleep => 2

theorem sends_wakePack (p : Pack) : Sends s (s.wakePack p) 1 := (sends_setLine p true).trans (sends_sendMask p 0 _)

theorem sends_sleepPack (p : Pack) : Sends s (s.sleepPack p) 1 := (sends_sendMask p 0 _).trans (sends_setLine p false)

theorem sends_wake : Sends s s.wake 2 := by
  have hcleared : Sends s ((s.setMask .p0 0).setMask .p1 0) 0 := sends_quiet rfl rfl rfl
  exact ((hcleared.trans (sends_wakePack .p0)).trans (sends_wakePack .p1)).trans (sends_radio true)

theorem sends_sleep : Sends s s.sleep 2 := ((sends_sleepPack .p0).trans (sends_sleepPack .p1)).trans (sends_radio false)

theorem sends_setMode (k : Mode) : Sends s (s.setMode k) 0 := sends_quiet rfl rfl rfl

theorem sends_trans (ign cp : Bool) : Sends s (s.trans ign cp) (transitionFrames (transitionEffect s.mode ign cp)) := by
  rw [trans_eq_afterTransition, State.afterTransition]
  cases transitionEffect s.mode ign cp with
  | stay => exact sends_refl
  | wakeTo k =>
    dsimp only
    rw [← setMode_wake]
    exact (sends_setMode k).trans sends_wake
  | sleep =>
    dsimp only
    rw [← setMode_sleep]
    exact (sends_setMode .standby).trans sends_sleep

theorem sends_drainMailbox : Sends s s.drainMailbox (transitionFrames s.drainEffect) := by
  obtain ⟨hbox, hs⟩ | ⟨v, hbox, hs⟩ := s.drainMailbox_cases
  · rw [hs, drainEffect_empty hbox]
    exact sends_refl
  · have hemptied : Sends s { s with mbox := none } 0 := sends_quiet rfl rfl rfl
    have htrans := hemptied.trans (sends_trans s.ignDb v)
    rw [Nat.zero_add] at htrans
    rw [hs, drainEffect_full hbox]
    exact htrans

theorem sends_pollInputs (ign cp : Bool) :
    Sends s (s.pollInputs ign cp) (transitionFrames (transitionEffect s.mode (s.debounce ign).ignDb cp)) := by
  have hdebounced : Sends s (s.debounce ign) 0 :=
    sends_quiet (s.debounce_cfg ign) (s.debounce_trace ign) (s.debounce_afeIn ign)
  have htrans := hdebounced.trans (sends_trans (s.debounce ign).ignDb cp)
  rwa [Nat.zero_add, State.debounce_mode] at htrans

/-! The acquisition (R120). -/

theorem sends_acqCell (p : Pack) (k : Mask) (a : AcqProgress) (j : Nat) : Sends a.st (acqCell p k a j).st 1 := by
  have hread := ((sends_sendMask (s := a.st) p k (a.st.cfg.selectByte j)).trans (sends_delay .muxSettle)).trans
    (sends_adcRead p)
  exact hread.trans (sends_quiet (State.pushCell_cfg ..) (State.pushCell_trace ..) (State.pushCell_afeIn ..))

theorem sends_acqCells (p : Pack) (k : Mask) (js : List Nat) (a : AcqProgress) :
    Sends a.st (js.foldl (acqCell p k) a).st js.length := by
  induction js generalizing a with
  | nil => exact sends_refl
  | cons j js ih =>
    rw [List.foldl_cons, List.length_cons, Nat.add_comm]
    exact (sends_acqCell p k a j).trans (ih _)

theorem sends_acqFinish (p : Pack) (k : Mask) (a : AcqProgress) : Sends a.st (acqFinish p k a) 1 := by
  have hrestored := sends_sendMask (s := a.st) p k a.st.cfg.ctrlSample
  have hsummed : Sends (a.st.sendMask p k a.st.cfg.ctrlSample)
      (if (a.st.sendMask p k a.st.cfg.ctrlSample).cfg.totalSource = .cellSum
        then (a.st.sendMask p k a.st.cfg.ctrlSample).pushTot p a.total else a.st.sendMask p k a.st.cfg.ctrlSample) 0 := by
    split
    · exact sends_quiet (State.pushTot_cfg ..) (State.pushTot_trace ..) (State.pushTot_afeIn ..)
    · exact sends_refl
  have hflagged := (hrestored.trans hsummed).trans
    (sends_quiet (State.setDiag_cfg _ p a.diag) (State.setDiag_trace _ p a.diag) (State.setDiag_afeIn _ p a.diag))
  unfold acqFinish
  dsimp only
  split
  · exact hflagged.trans (sends_emit rfl (by simp))
  · exact hflagged

/-- An acquisition sends the sample frame, one frame for each cell, and the restore frame (R121). -/
theorem sends_acquire (p : Pack) : Sends s (s.acquire p) (1 + s.cfg.numCells + 1) := by
  have hsample : Sends s (acqSample s p (s.mask p)).st 1 := (sends_sendMask p _ _).trans (sends_delay .sampleSettle)
  have hcells := sends_acqCells p (s.mask p) (cellsDown s.cfg.numCells) (acqSample s p (s.mask p))
  rw [length_cellsDown] at hcells
  exact (hsample.trans hcells).trans (sends_acqFinish p _ _)

/-! The cycle (R220). -/

/-- The frames of a cycle's steps 2 and 4 in mode m, with n cells in a pack (R222, R224, R225). -/
def middleFrames (n : Nat) : Mode → Nat
  | .standby => 0
  | .driving => (1 + n + 1) + (1 + n + 1)
  | .charging => (1 + n + 1) + (1 + n + 1) + (1 + 1)

theorem sends_bothAcquire : Sends s ((s.acquire .p0).acquire .p1) ((1 + s.cfg.numCells + 1) + (1 + s.cfg.numCells + 1)) := by
  have hsecond := sends_acquire (s := s.acquire .p0) .p1
  rw [acquire_cfg] at hsecond
  exact (sends_acquire .p0).trans hsecond

theorem sends_balancePack (p : Pack) : Sends s (s.balancePack p) 1 := by
  have hbuilt : Sends s (s.rebuildMask p) 0 := sends_quiet (State.setMask_cfg ..) (State.setMask_trace ..) (State.setMask_afeIn ..)
  exact hbuilt.trans (sends_sendMask p _ _)

theorem sends_middle : Sends s s.cycleAcquire.cycleActions (middleFrames s.cfg.numCells s.mode) := by
  cases hmode : s.mode with
  | standby =>
    rw [cycleAcquire_standby hmode, cycleActions_standby hmode]
    exact sends_refl
  | driving =>
    rw [cycleActions_driving (cycleAcquire_mode.trans hmode), cycleAcquire_awake (by simp [hmode])]
    exact sends_bothAcquire.trans (sends_emit rfl (by simp))
  | charging =>
    rw [cycleActions_charging (cycleAcquire_mode.trans hmode), cycleAcquire_awake (by simp [hmode])]
    have hbalanced := (sends_balancePack (s := (s.acquire .p0).acquire .p1) .p0).trans (sends_balancePack .p1)
    exact sends_bothAcquire.trans (hbalanced.trans (sends_emit rfl (by simp)))

/-- The frames of a whole cycle: of the mailbox's transition, in the mode that leaves, and of the poll's transition. -/
def cycleFrames (s : State) (ign cp : Bool) : Nat :=
  transitionFrames s.drainEffect + middleFrames s.cfg.numCells (s.drainEffect.modeAfter s.mode) +
    transitionFrames (transitionEffect (s.drainEffect.modeAfter s.mode) (s.debounce ign).ignDb cp)

theorem sends_cycleBody (ign cp : Bool) : Sends s (s.cycleBody ign cp) (cycleFrames s ign cp) := by
  have hmiddle := sends_middle (s := s.drainMailbox)
  have hpoll := sends_pollInputs (s := s.drainMailbox.cycleAcquire.cycleActions) ign cp
  rw [cyclePoll_effect, drainMailbox_mode] at hpoll
  rw [drainMailbox_cfg, drainMailbox_mode] at hmiddle
  exact (sends_drainMailbox.trans hmiddle).trans hpoll

/-! Every body. -/

/-- The number of frames a body sends. -/
def bodyFrames (s : State) : Instr → Nat
  | .xfer3 _ _ _ _ => 1
  | .acq _ => 1 + s.cfg.numCells + 1
  | .balw _ => 1
  | .poll ign cp => transitionFrames (transitionEffect s.mode (s.debounce ign).ignDb cp)
  | .mdrain => transitionFrames s.drainEffect
  | .cycle ign cp => cycleFrames s ign cp
  | .afeSample _ => 1
  | .afeSelect _ _ => 1
  | .afeBalset _ => 1
  | .afeSleep _ => 1
  | .afeWake _ => 1
  | .seten _ _ => 0
  | .push _ _ _ => 0
  | .pusht _ _ => 0
  | .avg _ _ => 0
  | .avgt _ => 0
  | .ovq => 0
  | .uvq => 0
  | .balq => 0
  | .otq => 0
  | .statq => 0
  | .fltq => 0
  | .diagq _ => 0
  | .modeq => 0
  | .maskq _ => 0
  | .balc _ => 0
  | .mpost _ => 0
  | .halt => 0

theorem sends_bodyOf (i : Instr) : Sends s (bodyOf s i) (bodyFrames s i) := by
  cases i with
  | xfer3 | balw | afeSample | afeSelect | afeBalset | afeSleep | afeWake => exact sends_frame _ _ _ _
  | acq p => exact sends_acquire p
  | poll ign cp => exact sends_pollInputs ign cp
  | mdrain => exact sends_drainMailbox
  | cycle ign cp => exact sends_cycleBody ign cp
  | seten p v => exact sends_setLine p v
  | push p j code => exact sends_quiet (State.pushCell_cfg ..) (State.pushCell_trace ..) (State.pushCell_afeIn ..)
  | pusht p x => exact sends_quiet (State.pushTot_cfg ..) (State.pushTot_trace ..) (State.pushTot_afeIn ..)
  | balc p => exact sends_quiet (State.setMask_cfg ..) (State.setMask_trace ..) (State.setMask_afeIn ..)
  | mpost cp =>
    rw [bodyOf]
    split
    · exact sends_quiet rfl rfl rfl
    · exact sends_refl
  | halt => exact sends_quiet rfl rfl rfl
  | avg | avgt | ovq | uvq | balq | otq | statq | fltq | diagq | modeq | maskq => exact sends_refl

/-- The number of frames depends on neither the answers waiting nor anything else of the oracles. -/
theorem bodyFrames_afeIn (i : Instr) (rs : List AfeReply) : bodyFrames { s with afeIn := rs } i = bodyFrames s i := by
  have hdebounced (ign : Bool) : (State.debounce { s with afeIn := rs } ign).ignDb = (s.debounce ign).ignDb :=
    debounce_ignDb_congr rfl rfl rfl
  cases i with
  | poll ign cp => rw [bodyFrames, hdebounced, bodyFrames]
  | cycle ign cp =>
    rw [bodyFrames, cycleFrames, hdebounced]
    rfl
  | _ => rfl

/-- The checks read the halt flag, the mode and the parameters (R232). -/
theorem Runs.afeIn {i : Instr} (h : Runs s i) (rs : List AfeReply) : Runs { s with afeIn := rs } i := by
  refine ⟨fun c hc => ?_, h.frame_running⟩
  cases hc with
  | halted hhalted hi => exact h.not_refused _ (.halted hhalted hi)
  | push hrun hj => exact h.not_refused _ (.push hrun hj)
  | avg hj => exact h.not_refused _ (.avg hj)
  | acq hrun hmode => exact h.not_refused _ (.acq hrun hmode)
  | balc hrun hmode => exact h.not_refused _ (.balc hrun hmode)
  | balw hrun hmode => exact h.not_refused _ (.balw hrun hmode)

theorem runs_afeIn_iff {i : Instr} (rs : List AfeReply) : Runs { s with afeIn := rs } i ↔ Runs s i :=
  ⟨fun h => h.afeIn (s := { s with afeIn := rs }) s.afeIn, fun h => h.afeIn rs⟩

/-- The frames of a body are answered with the answers waiting, when they are as many. -/
theorem frameResponses_of_sends (h : Sends s t s.afeIn.length) :
    frameResponses (newEvents s t) = s.afeIn.map packReply := by
  obtain ⟨es, happends, hlen⟩ := h
  obtain ⟨hresponses, -⟩ := happends.answered s.afeIn [] (List.append_nil _).symm hlen.symm
  rwa [newEvents_of_append happends.trace]

/-- An instruction that does not run sends no frame, one that does sends those of its body. -/
theorem sends_exec {i : Instr} (h : exec i s = .next t) :
    (Runs s i → Sends s t (bodyFrames s i)) ∧ (¬ Runs s i → Sends s t 0) :=
  ⟨fun hruns => (sends_bodyOf i).respond (exec_of_runs hruns h),
    fun hruns => sends_refl.respond (exec_of_not_runs hruns h)⟩

/-- Every step only appends (R37). -/
theorem appends_step (h : step s = .next t) : ∃ es, Appends s t es := by
  have hsends : ∃ n, Sends s t n := by
    obtain ht | ⟨i, _, -, -, ht⟩ := step_writes h
    · rw [ht]
      exact ⟨0, sends_quiet rfl rfl rfl⟩
    · have htaken : Sends s s.taken 0 := sends_quiet rfl rfl rfl
      exact ⟨_, (htaken.trans (sends_bodyOf i)).respond ht⟩
  obtain ⟨_, es, hes, -⟩ := hsends
  exact ⟨es, hes⟩

end

/-- Settles O59: what a step appends is `appends_step`. -/
theorem traceOnlyGrows : Obligations.TraceOnlyGrows := by
  intro s t h
  obtain ⟨es, hes⟩ := appends_step h
  exact ⟨es, hes.trace⟩

/-- Settles O19: the conversions appended are the oracle's, whose codes `clampCode_bounds` holds in the range. -/
theorem adcCodesStayInRange : Obligations.AdcCodesStayInRange := by
  intro s t hrange h ch code hmem
  obtain ⟨es, hes⟩ := appends_step h
  rw [newEvents_of_append hes.trace] at hmem
  obtain ⟨hchannel, x, rfl⟩ := hes.conversion ch code hmem
  obtain ⟨hlo, hhi⟩ := clampCode_bounds hrange x
  exact ⟨hlo, hhi, hchannel⟩

/-- Some answers of the AFE make an instruction's frames answer any given values, as many as it sends. -/
theorem exec_any_responses {s : State} {i : Instr} {n : Nat}
    (hsends : ∀ rs t, exec i { s with afeIn := rs } = .next t → Sends { s with afeIn := rs } t n) (vs : List Word24)
    (hlen : vs.length = n) :
    ∃ (rs : List AfeReply) (t : State), exec i { s with afeIn := rs } = .next t ∧ frameResponses (newEvents s t) = vs := by
  obtain ⟨-, hexec⟩ := everyStepAnswersANextState
  obtain ⟨t, ht⟩ := hexec i { s with afeIn := vs.map unpackReply }
  have hsent := hsends _ t ht
  rw [← hlen, ← vs.length_map (f := unpackReply)] at hsent
  have hresponses := frameResponses_of_sends hsent
  rw [List.map_map] at hresponses
  refine ⟨_, t, ht, hresponses.trans ?_⟩
  exact (List.map_congr_left fun v _ => packReply_unpackReply v).trans vs.map_id

/-- Settles O12: the number of frames is that of the instruction's body, or none where the instruction does not run. -/
theorem anyFrameResponseIsPossible : Obligations.AnyFrameResponseIsPossible := by
  refine ⟨fun i s => ?_, fun v p b0 b1 b2 s hrun => ?_⟩
  · by_cases hruns : Runs s i
    · refine ⟨bodyFrames s i, exec_any_responses fun rs t ht => ?_⟩
      obtain ⟨hsends, -⟩ := sends_exec ht
      rw [← bodyFrames_afeIn i rs]
      exact hsends (hruns.afeIn rs)
    · refine ⟨0, exec_any_responses fun rs t ht => ?_⟩
      obtain ⟨-, hsends⟩ := sends_exec ht
      exact hsends (mt (runs_afeIn_iff rs).mp hruns)
  · have hexec := exec_xfer3_running (s := { s with afeIn := unpackReply v :: s.afeIn }) p b0 b1 b2 hrun
    refine ⟨unpackReply v, _, hexec, ?_, ?_⟩
    · simp [State.nextRx, State.nextReply, packReply_unpackReply]
    · simp [State.nextRx, State.nextReply, packReply_unpackReply, rxValue]

end Sys2Proof.Proofs

/-! PROOFS. What an acquisition reads and where it puts it (42_acquisition.md R120 to R128; 70_reset_and_hazards.md R279): each
cell's code into its own buffer, the codes' sum into the total, the frames' low bytes into the diagnostic. -/

namespace Sys2Proof.Proofs

open Sys2Proof
open Sys2Proof.Machine

/-! The listed events of R121, read for one thing at a time. -/

section
variable {c : Config} {p : Pack} {m : Mask} {first last : Word24} {reads : List (Word24 × Int)}

theorem adcCodes_append (es fs : List Event) : adcCodes (es ++ fs) = adcCodes es ++ adcCodes fs := List.filterMap_append

theorem settleTotal_append (es fs : List Event) : settleTotal c (es ++ fs) = settleTotal c es + settleTotal c fs := by
  simp [settleTotal]

theorem adcCodes_acqCells (xs : List (Nat × Word24 × Int)) :
    adcCodes (xs.flatMap (acqCellEvents c p m)) = xs.map fun x => x.2.2 := by
  induction xs with
  | nil => rfl
  | cons x xs ih =>
    rw [List.flatMap_cons, adcCodes_append, ih]
    rfl

theorem frameResponses_acqCells (xs : List (Nat × Word24 × Int)) :
    frameResponses (xs.flatMap (acqCellEvents c p m)) = xs.map fun x => x.2.1 := by
  induction xs with
  | nil => rfl
  | cons x xs ih =>
    rw [List.flatMap_cons, frameResponses_append, ih]
    rfl

theorem settleTotal_acqCells (xs : List (Nat × Word24 × Int)) :
    settleTotal c (xs.flatMap (acqCellEvents c p m)) = xs.length * c.muxSettleUs := by
  induction xs with
  | nil => simp [settleTotal]
  | cons x xs ih =>
    have hcell : settleTotal c (acqCellEvents c p m x) = c.muxSettleUs := by simp [settleTotal, acqCellEvents, Event.settleUs]
    rw [List.flatMap_cons, settleTotal_append, ih, hcell, List.length_cons]
    ring

theorem zip_cellsDown_map {α : Type} (f : Word24 × Int → α) (hlen : reads.length = c.numCells) :
    ((cellsDown c.numCells).zip reads).map (fun x => f x.2) = reads.map f := by
  have hsnd : ((cellsDown c.numCells).zip reads).map Prod.snd = reads :=
    List.map_snd_zip (by rw [hlen, length_cellsDown])
  calc ((cellsDown c.numCells).zip reads).map (f ∘ Prod.snd)
    _ = (((cellsDown c.numCells).zip reads).map Prod.snd).map f := List.map_map.symm
    _ = reads.map f := by rw [hsnd]

theorem adcCodes_acqEvents (hlen : reads.length = c.numCells) :
    adcCodes (acqEvents c p m first reads last) = reads.map Prod.snd := by
  rw [acqEvents_eq, adcCodes_append, adcCodes_append, adcCodes_acqCells, zip_cellsDown_map Prod.snd hlen]
  exact List.append_nil _

theorem frameResponses_acqEvents (hlen : reads.length = c.numCells) :
    frameResponses (acqEvents c p m first reads last) = first :: reads.map Prod.fst ++ [last] := by
  rw [acqEvents_eq, frameResponses_append, frameResponses_append, frameResponses_acqCells, zip_cellsDown_map Prod.fst hlen]
  rfl

theorem settleTotal_acqEvents (hlen : reads.length = c.numCells) :
    settleTotal c (acqEvents c p m first reads last) = c.sampleSettleUs + c.numCells * c.muxSettleUs := by
  rw [acqEvents_eq, settleTotal_append, settleTotal_append, settleTotal_acqCells, List.length_zip, length_cellsDown, hlen,
    Nat.min_self]
  simp [settleTotal, Event.settleUs]

end

/-- Settles O20: the events of `acquire_trace`, of which the delays alone take time. -/
theorem acqSettleTimesAddUp : Obligations.AcqSettleTimesAddUp := by
  intro p s hrun hmode
  obtain ⟨first, last, reads, hlen, htrace⟩ := acquire_trace (s := s) p
  rw [List.append_assoc] at htrace
  refine ⟨(s.acquire p).done, exec_acq_awake p hrun hmode, ?_⟩
  rw [newEvents_of_append ((State.done_trace _).trans htrace), settleTotal_append, settleTotal_acqEvents hlen]
  have hdiag (d : Bool) : settleTotal s.cfg (if d then [.diag p] else []) = 0 := by cases d <;> rfl
  rw [hdiag, Nat.add_zero]

section
variable {s t : State} {p : Pack} {m : Mask}

/-! The cells (R123). -/

theorem acqCell_cell_same {a : AcqProgress} {j : Nat} (hj : j < (a.st.pack p).buf.length) :
    (acqCell p m a j).st.cell p j =
      (a.st.cell p j).push ((a.st.sendMask p m (a.st.cfg.selectByte j)).delay .muxSettle).nextCode := by
  simp [acqCell, State.pushCell, State.setCell, State.cell_eq, hj]

theorem acqCell_cell_other {a : AcqProgress} {j k : Nat} (h : k ≠ j) :
    (acqCell p m a j).st.cell p k = a.st.cell p k := by
  simp [acqCell, State.pushCell, State.setCell, State.cell_eq, List.getD_eq_getElem?_getD, List.getElem?_set_ne h.symm]

/-- From a to b the cells js of pack p were acquired, the select frame and the conversion of each answered as reads lists
them: each code went into its cell's buffer, and every low byte and code was counted. -/
structure AcqReads (p : Pack) (m : Mask) (js : List Nat) (reads : List (Word24 × Int)) (a b : AcqProgress) : Prop where
  length : reads.length = js.length
  trace : b.st.trace = a.st.trace ++ (js.zip reads).flatMap (acqCellEvents a.st.cfg p m)
  diag : b.diag = (a.diag || reads.any fun x => lowByteSet x.1)
  total : b.total = a.total + (reads.map Prod.snd).sum
  pushed : ∀ x ∈ js.zip reads, b.st.cell p x.1 = (a.st.cell p x.1).push x.2.2
  unread : ∀ j, j ∉ js → b.st.cell p j = a.st.cell p j
  tot : b.st.tot p = a.st.tot p

theorem AcqReads.cons {a b : AcqProgress} {j : Nat} {js : List Nat} {reads : List (Word24 × Int)}
    (h : AcqReads p m js reads (acqCell p m a j) b) (hj : j < (a.st.pack p).buf.length) (hnew : j ∉ js) :
    AcqReads p m (j :: js) ((a.st.nextRx, ((a.st.sendMask p m (a.st.cfg.selectByte j)).delay .muxSettle).nextCode) :: reads)
      a b where
  length := congrArg (· + 1) h.length
  trace := by
    rw [h.trace, acqCell_cfg]
    simp [acqCell, acqCellEvents]
  diag := by
    rw [h.diag, List.any_cons]
    exact Bool.or_assoc _ _ _
  total := by
    rw [h.total, List.map_cons, List.sum_cons]
    exact add_assoc _ _ _
  pushed x hx := by
    rw [List.zip_cons_cons] at hx
    obtain rfl | hlater := List.mem_cons.mp hx
    · exact (h.unread j hnew).trans (acqCell_cell_same hj)
    · have hne : x.1 ≠ j := fun heq => hnew (heq ▸ (List.of_mem_zip hlater).1)
      rw [h.pushed x hlater, acqCell_cell_other hne]
  unread k hk := by
    have hne : k ≠ j := fun heq => hk (heq ▸ List.mem_cons_self)
    have hlater : k ∉ js := fun hmem => hk (List.mem_cons_of_mem j hmem)
    rw [h.unread k hlater, acqCell_cell_other hne]
  tot := h.tot.trans (by simp [acqCell, State.tot_eq])

/-- Any run of cells, each of them once. -/
theorem acqCells_reads {js : List Nat} (hnodup : js.Nodup) (a : AcqProgress)
    (hbuf : ∀ j ∈ js, j < (a.st.pack p).buf.length) : ∃ reads, AcqReads p m js reads a (js.foldl (acqCell p m) a) := by
  induction js generalizing a with
  | nil => exact ⟨[], rfl, by simp, by simp, by simp, by simp, fun _ _ => rfl, rfl⟩
  | cons j js ih =>
    obtain ⟨hnew, hnodup⟩ := List.nodup_cons.mp hnodup
    obtain ⟨hj, hlater⟩ := List.forall_mem_cons.mp hbuf
    obtain ⟨-, -, -, -, -, -, -, -, -, -, -, -, hkept⟩ := acqCell_sameButPack p m a j
    obtain ⟨reads, hreads⟩ := ih hnodup (acqCell p m a j) fun k hk => by rw [hkept]; exact hlater k hk
    exact ⟨_, hreads.cons hj hnew⟩

/-! The whole acquisition (R120). -/

theorem acqFinish_cell (a : AcqProgress) (j : Nat) : (acqFinish p m a).cell p j = a.st.cell p j := by
  unfold acqFinish
  dsimp only
  split <;> split <;> simp [State.cell_eq]

theorem acqFinish_tot (a : AcqProgress) :
    (acqFinish p m a).tot p = if a.st.cfg.totalSource = .cellSum then (a.st.tot p).push a.total else a.st.tot p := by
  unfold acqFinish
  dsimp only
  split <;> split <;> simp_all [State.tot_eq]

theorem nodup_cellsDown (n : Nat) : (cellsDown n).Nodup := List.nodup_reverse.mpr List.nodup_range

theorem mem_zip_cellsDown {n : Nat} {reads : List (Word24 × Int)} (hlen : reads.length = n) {j : Nat} (hj : j < n) :
    (j, reads[n - 1 - j]) ∈ (cellsDown n).zip reads := by
  refine List.mem_iff_getElem.mpr ⟨n - 1 - j, by simp [hlen]; omega, ?_⟩
  simp [cellsDown]
  omega

/-- Everything an acquisition of pack p read, and where it went. -/
theorem acquire_reads (hbuf : (s.pack p).buf.length = s.cfg.numCells) :
    ∃ (first last : Word24) (reads : List (Word24 × Int)), reads.length = s.cfg.numCells ∧
      (s.acquire p).trace = s.trace ++ (acqEvents s.cfg p (s.mask p) first reads last ++
        (if ((s.acquire p).pack p).diag then [.diag p] else [])) ∧
      ((s.acquire p).pack p).diag = (lowByteSet first || reads.any fun x => lowByteSet x.1) ∧
      (s.acquire p).tot p =
        (if s.cfg.totalSource = .cellSum then (s.tot p).push (reads.map Prod.snd).sum else s.tot p) ∧
      ∀ j, j < s.cfg.numCells →
        (s.acquire p).cell p j = (s.cell p j).push ((reads.map Prod.snd).getD (s.cfg.numCells - 1 - j) 0) := by
  obtain ⟨reads, hreads⟩ := acqCells_reads (p := p) (m := s.mask p) (nodup_cellsDown s.cfg.numCells)
    (acqSample s p (s.mask p)) fun j hj => by simpa [acqSample, hbuf, cellsDown] using hj
  obtain ⟨last, hfinish⟩ := acqFinish_trace p (s.mask p)
    ((cellsDown s.cfg.numCells).foldl (acqCell p (s.mask p)) (acqSample s p (s.mask p)))
  have hlen : reads.length = s.cfg.numCells := hreads.length.trans (length_cellsDown _)
  refine ⟨s.nextRx, last, reads, hlen, ?_, ?_, ?_, fun j hj => ?_⟩
  · rw [State.acquire, acqFinish_diag, hfinish, hreads.trace, acqSample_trace, acqEvents_eq, acqCells_cfg, acqSample_cfg]
    simp only [List.append_assoc]
  · rw [State.acquire, acqFinish_diag, hreads.diag]
    rfl
  · rw [State.acquire, acqFinish_tot, hreads.tot, hreads.total, acqCells_cfg]
    simp [acqSample]
  · have hpushed := hreads.pushed _ (mem_zip_cellsDown hlen hj)
    have hindex : s.cfg.numCells - 1 - j < reads.length := by omega
    rw [State.acquire, acqFinish_cell, hpushed]
    simp [acqSample, hindex]

/-- Of pack p the mask and the line are kept, of the rest everything. -/
theorem eq_of_sameButPack (h : s.sameButPack t p) :
    t = { s.setPack p { s.pack p with buf := (t.pack p).buf, tot := t.tot p, diag := (t.pack p).diag } with
      trace := t.trace
      afeIn := t.afeIn
      adcIn := t.adcIn
      draws := t.draws } := by
  obtain ⟨hmode, hradio, hdb, hcnt, hmbox, hhalted, hresp, hcfg, hcmds, hother, hmask, henable, -⟩ := h
  have hpack (q : Pack) :
      (s.setPack p { s.pack p with buf := (t.pack p).buf, tot := t.tot p, diag := (t.pack p).diag }).pack q = t.pack q := by
    rw [State.setPack_pack]
    split
    next heq => simp only [heq, ← hmask, ← henable, State.tot_eq]
    next hne => exact (hother q hne).symm
  have hpack0 := hpack .p0
  have hpack1 := hpack .p1
  rw [State.pack_p0, State.pack_p0] at hpack0
  rw [State.pack_p1, State.pack_p1] at hpack1
  simp only [hpack0, hpack1, State.setPack_mode, State.setPack_radioEn, State.setPack_ignDb, State.setPack_ignCnt,
    State.setPack_mbox, State.setPack_halted, State.setPack_resp, State.setPack_cfg, State.setPack_cmds, ← hmode, ← hradio,
    ← hdb, ← hcnt, ← hmbox, ← hhalted, ← hresp, ← hcfg, ← hcmds]

end

/-- Settles O17: `acquire_reads`, and `State.acquire_sameButPack` for what is not written. -/
theorem acqPushesWhatItReads : Obligations.AcqPushesWhatItReads := by
  intro p s hrun hmode hbuf
  obtain ⟨first, last, reads, hlen, htrace, hdiag, htot, hcells⟩ := acquire_reads hbuf
  have hsame := s.acquire_sameButPack p
  have ⟨_, _, _, _, _, _, _, _, _, _, _, _, hkept⟩ := hsame
  have hnew : newEvents s (s.acquire p).done =
      acqEvents s.cfg p (s.mask p) first reads last ++
        (if ((s.acquire p).pack p).diag then [.diag p] else []) :=
    newEvents_of_append ((State.done_trace _).trans htrace)
  have hcodes : adcCodes (newEvents s (s.acquire p).done) = reads.map Prod.snd := by
    have hnone : adcCodes (if ((s.acquire p).pack p).diag then [.diag p] else []) = [] := by split <;> rfl
    rw [hnew, adcCodes_append, adcCodes_acqEvents hlen, hnone, List.append_nil]
  have hresponses : frameResponses (newEvents s (s.acquire p).done) = first :: reads.map Prod.fst ++ [last] := by
    have hnone : frameResponses (if ((s.acquire p).pack p).diag then [.diag p] else []) = [] := by
      split <;> rfl
    rw [hnew, frameResponses_append, frameResponses_acqEvents hlen, hnone, List.append_nil]
  refine ⟨(s.acquire p).done, exec_acq_awake p hrun hmode, ?_, ?_, fun j hj => ?_, ?_, ?_, ?_⟩
  · rw [hcodes, List.length_map, hlen]
  · rw [State.done_pack, hkept, hbuf]
  · rw [State.done_cell, hcodes]
    exact hcells j hj
  · rw [State.done_tot, hcodes, htot]
  · rw [State.done_pack, hresponses, List.dropLast_concat, hdiag]
    simp [List.any_map]
    rfl
  · simp only [State.done_pack, State.done_tot]
    exact congrArg State.done (eq_of_sameButPack hsame)

end Sys2Proof.Proofs

/-! PROOFS. The pins of a frame and of a trace (20_memory.md R53, R54, R57; 41_transport.md R101, R107): the samples of one
frame in their order, and the selects and clock cycles counted frame by frame. -/

namespace Sys2Proof.Proofs

open Sys2Proof
open Sys2Proof.Machine

/-! One frame. -/

/-- Bit k of three bytes in wire order, each with bit 7 first (R54). -/
theorem getElem?_msbFirst (a b d : Byte) {k : Nat} (hk : k < 24) :
    (msbFirst a ++ msbFirst b ++ msbFirst d)[k]? = some (([a, b, d].getD (k / 8) 0).getLsbD (7 - k % 8)) := by
  have hbit (x : Byte) {n : Nat} (hn : n < 8) : (msbFirst x)[n]? = some (x.getLsbD (7 - n)) := by simp [msbFirst, hn]
  have hbyte : k < 8 ∨ (8 ≤ k ∧ k < 16) ∨ 16 ≤ k := by omega
  obtain h | ⟨h, h'⟩ | h := hbyte
  · rw [List.append_assoc, List.getElem?_append_left (by simpa using h), hbit a h, Nat.div_eq_of_lt h, Nat.mod_eq_of_lt h]
    rfl
  · obtain ⟨n, rfl⟩ := Nat.exists_eq_add_of_le h
    have hn : n < 8 := by omega
    rw [List.getElem?_append_left (by simpa using h'), List.getElem?_append_right (by simp), msbFirst_length,
      Nat.add_sub_cancel_left, hbit b hn, show (8 + n) / 8 = 1 by omega, show (8 + n) % 8 = n by omega]
    rfl
  · obtain ⟨n, rfl⟩ := Nat.exists_eq_add_of_le h
    have hn : n < 8 := by omega
    rw [List.getElem?_append_right (by simp), List.length_append, msbFirst_length, msbFirst_length,
      Nat.add_sub_cancel_left, hbit d hn, show (16 + n) / 8 = 2 by omega, show (16 + n) % 8 = n by omega]
    rfl

/-- The received bytes in their order hold the response's bits, r0 lowest (R73). -/
theorem unpackReply_getLsbD (rx : Word24) {i b : Nat} (hi : i < 3) (hb : b < 8) :
    ([(unpackReply rx).r0, (unpackReply rx).r1, (unpackReply rx).r2].getD i 0).getLsbD b = rx.getLsbD (8 * i + b) := by
  have hbyte : i = 0 ∨ i = 1 ∨ i = 2 := by omega
  obtain rfl | rfl | rfl := hbyte <;> simp [unpackReply, hb]

theorem getElem?_frameBits (t0 t1 t2 : Byte) (rx : Word24) {k : Nat} (hk : k < 24) :
    (frameBits t0 t1 t2 rx)[k]? =
      some (([t0, t1, t2].getD (k / 8) 0).getLsbD (7 - k % 8), rx.getLsbD (8 * (k / 8) + (7 - k % 8))) := by
  rw [← unpackReply_getLsbD rx (by omega) (by omega)]
  exact List.getElem?_zip_eq_some.mpr ⟨getElem?_msbFirst _ _ _ hk, getElem?_msbFirst _ _ _ hk⟩

/-- In a list made of pairs, the halves of the k-th pair stand at 2 k and 2 k + 1. -/
theorem getElem?_flatMap_pair {α β : Type} (g : α → List β) (hg : ∀ x, (g x).length = 2) (xs : List α) (k : Nat)
    (half : Bool) : (xs.flatMap g)[2 * k + half.toNat]? = xs[k]?.bind fun x => (g x)[half.toNat]? := by
  have hhalf : half.toNat < 2 := half.toNat_lt
  induction xs generalizing k with
  | nil => rfl
  | cons x xs ih =>
    rw [List.flatMap_cons]
    cases k with
    | zero =>
      rw [List.getElem?_append_left (by rw [hg]; omega), Nat.mul_zero, Nat.zero_add]
      rfl
    | succ k =>
      rw [List.getElem?_append_right (by rw [hg]; omega), hg, show 2 * (k + 1) + half.toNat - 2 = 2 * k + half.toNat by omega,
        ih k]
      rfl

section
variable (c : Config) (p : Pack) (t0 t1 t2 : Byte) (rx : Word24)

theorem selectPins_eq :
    selectPins c p = { cs0 := p != .p0, cs1 := p != .p1, sclk := c.spiPolarity, mosi := none, miso := none } := by
  cases p <;> rfl

/-- The two halves of one clock cycle (R101). -/
theorem getElem?_bitPins (o i half : Bool) :
    (bitPins c p o i)[half.toNat]? = some {
      cs0 := p != .p0
      cs1 := p != .p1
      sclk := c.spiPolarity ^^ (c.spiPhase ^^ half)
      mosi := some o
      miso := some i } := by
  cases half <;> simp [bitPins, selectPins_eq]

/-- The clock's level in the first half of a cycle is the one SPI_MODE's phase gives, in the second its opposite. -/
theorem bitPins_halves (o i : Bool) : ∃ x y, bitPins c p o i = [x, y] ∧ x.sclk = (c.spiPolarity ^^ c.spiPhase) ∧
    y.sclk = !(c.spiPolarity ^^ c.spiPhase) :=
  ⟨_, _, rfl, rfl, rfl⟩

/-- A frame is samples with its pack alone selected, and then the release (R57). -/
theorem framePins_released : ∃ xs, framePins c p t0 t1 t2 rx = selectPins c p :: xs ++ [idlePins c] ∧
    ∀ x ∈ selectPins c p :: xs, ∀ q, x.cs q = (p != q) := by
  refine ⟨((frameBits t0 t1 t2 rx).flatMap fun b => bitPins c p b.1 b.2) ++ [selectPins c p], by simp [framePins], ?_⟩
  intro x hx q
  rw [List.mem_cons, List.mem_append, List.mem_flatMap, List.mem_singleton] at hx
  obtain rfl | ⟨b, -, hb⟩ | rfl := hx
  · exact selectPins_cs c p q
  · exact bitPins_cs c p q _ _ x hb
  · exact selectPins_cs c p q

theorem length_clockedBits : ((frameBits t0 t1 t2 rx).flatMap fun b => bitPins c p b.1 b.2).length = 48 := rfl

theorem getElem?_framePins_bit {k : Nat} (hk : k < 24) (half : Bool) :
    (framePins c p t0 t1 t2 rx)[1 + 2 * k + half.toNat]? = some {
      cs0 := p != .p0
      cs1 := p != .p1
      sclk := c.spiPolarity ^^ (c.spiPhase ^^ half)
      mosi := some (([t0, t1, t2].getD (k / 8) 0).getLsbD (7 - k % 8))
      miso := some (rx.getLsbD (8 * (k / 8) + (7 - k % 8))) } := by
  have hhalf : half.toNat < 2 := half.toNat_lt
  have hinside : 2 * k + half.toNat < ((frameBits t0 t1 t2 rx).flatMap fun b => bitPins c p b.1 b.2).length := by
    rw [length_clockedBits]
    omega
  rw [framePins, List.cons_append, show 1 + 2 * k + half.toNat = 2 * k + half.toNat + 1 by omega, List.getElem?_cons_succ,
    List.getElem?_append_left hinside,
    getElem?_flatMap_pair (fun b : Bool × Bool => bitPins c p b.1 b.2) (fun _ => rfl), getElem?_frameBits t0 t1 t2 rx hk]
  exact getElem?_bitPins c p _ _ half

end

/-! Level changes (R57, R101). -/

section
variable {c : Config} {f : PinSample → Bool}

theorem falls_cons_cons (x y : PinSample) (zs : List PinSample) :
    falls f (x :: y :: zs) = (if f x && !f y then 1 else 0) + falls f (y :: zs) := rfl

/-- Samples alike do not fall, nor does a rise after them. -/
theorem falls_level {b : Bool} {xs : List PinSample} (hxs : ∀ x ∈ xs, f x = b) {y : PinSample} (hy : f y = true) :
    falls f (xs ++ [y]) = 0 := by
  induction xs with
  | nil => rfl
  | cons x xs ih =>
    obtain ⟨hx, hrest⟩ := List.forall_mem_cons.mp hxs
    cases xs with
    | nil => simp [falls, hy]
    | cons z zs =>
      have hz : f z = b := hrest z List.mem_cons_self
      rw [List.cons_append, List.cons_append, falls_cons_cons, ← List.cons_append, ih hrest, hx, hz]
      simp

/-- A frame makes its own chip-select fall once, and the other never. -/
theorem falls_cs_framePins (p q : Pack) (t0 t1 t2 : Byte) (rx : Word24) :
    falls (fun x => x.cs q) (idlePins c :: framePins c p t0 t1 t2 rx) = if q = p then 1 else 0 := by
  obtain ⟨xs, hpins, hselected⟩ := framePins_released c p t0 t1 t2 rx
  have hframe : falls (fun x => x.cs q) (selectPins c p :: xs ++ [idlePins c]) = 0 :=
    falls_level (fun x hx => hselected x hx q) (idlePins_cs c q)
  rw [hpins, List.cons_append, falls_cons_cons, ← List.cons_append, hframe, idlePins_cs, selectPins_cs]
  cases p <;> cases q <;> rfl

/-- Each bit makes the clock leave its idle level once, whichever edge samples (R101). -/
theorem falls_sclk_bits (p : Pack) (bits : List (Bool × Bool)) (w : PinSample)
    (hw : c.spiPhase = true → w.sclk = c.spiPolarity) :
    falls (fun x => x.sclk == c.spiPolarity)
      (w :: ((bits.flatMap fun b => bitPins c p b.1 b.2) ++ [selectPins c p, idlePins c])) = bits.length := by
  induction bits generalizing w with
  | nil => simp [falls]
  | cons b bits ih =>
    obtain ⟨x, y, hpins, hx, hy⟩ := bitPins_halves c p b.1 b.2
    have hlast := ih y (by simp +contextual [hy])
    simp only [List.flatMap_cons, hpins, List.cons_append, List.nil_append, falls_cons_cons, hlast, hx, hy]
    cases hphase : c.spiPhase with
    | false => simp [Nat.add_comm]
    | true => simp [hw hphase, Nat.add_comm]

theorem falls_sclk_framePins (p : Pack) (t0 t1 t2 : Byte) (rx : Word24) :
    falls (fun x => x.sclk == c.spiPolarity) (idlePins c :: framePins c p t0 t1 t2 rx) = 24 := by
  rw [framePins, List.cons_append, falls_cons_cons, falls_sclk_bits p _ _ fun _ => selectPins_sclk c p, frameBits_length]
  simp

/-! A trace, event by event. -/

/-- The pins are idle after an event as before it. -/
theorem idle_cons_pins (e : Event) : ∃ xs, idlePins c :: e.pins c = xs ++ [idlePins c] := by
  cases e with
  | frame p t0 t1 t2 rx =>
    obtain ⟨xs, hpins, -⟩ := framePins_released c p t0 t1 t2 rx
    exact ⟨idlePins c :: selectPins c p :: xs, congrArg (idlePins c :: ·) hpins⟩
  | en | delay | adc | radio | can | telemetry | diag => exact ⟨[], rfl⟩

theorem pinTrace_cons (e : Event) (es : List Event) :
    ∃ xs, idlePins c :: e.pins c = xs ++ [idlePins c] ∧ pinTrace c (e :: es) = xs ++ pinTrace c es := by
  obtain ⟨xs, hxs⟩ := idle_cons_pins (c := c) e
  refine ⟨xs, hxs, ?_⟩
  rw [pinTrace, List.flatMap_cons, ← List.cons_append, hxs, List.append_assoc]
  rfl

theorem falls_pinTrace_cons (e : Event) (es : List Event) :
    falls f (pinTrace c (e :: es)) = falls f (idlePins c :: e.pins c) + falls f (pinTrace c es) := by
  obtain ⟨xs, hevent, htrace⟩ := pinTrace_cons (c := c) e es
  rw [htrace, hevent]
  exact falls_append f xs _ _

theorem pinTrace_getLast? (es : List Event) : (pinTrace c es).getLast? = some (idlePins c) := by
  induction es with
  | nil => rfl
  | cons e es ih =>
    obtain ⟨xs, -, htrace⟩ := pinTrace_cons (c := c) e es
    rw [htrace, List.getLast?_append, ih]
    rfl

theorem falls_cs_pinTrace (p : Pack) (es : List Event) :
    falls (fun x => x.cs p) (pinTrace c es) = (es.filter (Event.isFrameOn p)).length := by
  induction es with
  | nil => rfl
  | cons e es ih =>
    rw [falls_pinTrace_cons, ih]
    cases e with
    | frame q t0 t1 t2 rx =>
      rw [Event.pins, falls_cs_framePins]
      by_cases h : p = q <;> simp [Event.isFrameOn, h, Nat.add_comm]
    | en | delay | adc | radio | can | telemetry | diag => simp [Event.pins, falls, Event.isFrameOn]

theorem falls_sclk_pinTrace (es : List Event) :
    falls (fun x => x.sclk == c.spiPolarity) (pinTrace c es) =
      24 * ((es.filter (Event.isFrameOn .p0)).length + (es.filter (Event.isFrameOn .p1)).length) := by
  induction es with
  | nil => rfl
  | cons e es ih =>
    rw [falls_pinTrace_cons, ih]
    cases e with
    | frame q t0 t1 t2 rx =>
      rw [Event.pins, falls_sclk_framePins]
      cases q <;> simp [Event.isFrameOn] <;> ring
    | en | delay | adc | radio | can | telemetry | diag => simp [Event.pins, falls, Event.isFrameOn]

/-- Never are both packs selected (R107). -/
theorem cs_inactive_of_mem_pinTrace {es : List Event} {x : PinSample} (hx : x ∈ pinTrace c es) :
    x.cs0 = true ∨ x.cs1 = true := by
  rw [pinTrace, List.mem_cons, List.mem_flatMap] at hx
  obtain rfl | ⟨e, -, he⟩ := hx
  · exact .inl rfl
  · cases e with
    | frame p t0 t1 t2 rx =>
      obtain hselected | rfl := framePins_cs c p t0 t1 t2 rx x he
      · cases p with
        | p0 => exact .inr (hselected .p1)
        | p1 => exact .inl (hselected .p0)
      · exact .inl rfl
    | en | delay | adc | radio | can | telemetry | diag => exact absurd he List.not_mem_nil

end

/-- Settles O15: the samples of one frame by their places, and the counts over a trace by induction on its events. -/
theorem framePinsCarryEveryBit : Obligations.FramePinsCarryEveryBit := by
  refine fun c => ⟨fun p t0 t1 t2 rx => ⟨rfl, ?_, fun k hk => getElem?_framePins_bit c p t0 t1 t2 rx hk, ?_, rfl⟩,
    fun es => ⟨rfl, pinTrace_getLast? es, rfl, rfl, fun x => cs_inactive_of_mem_pinTrace, fun p => falls_cs_pinTrace p es,
      falls_sclk_pinTrace es⟩⟩
  · exact congrArg some (selectPins_eq c p)
  · exact congrArg some (selectPins_eq c p)

end Sys2Proof.Proofs
